-- ==== Sys2Proof/Word.lean ====
section
/-! DEFINITION. The word types of the spec (00_scope R9, R10; 30_encoding R70): bits, bytes, the fixed-width registers'
words, and the word of each format as its stage is handed it. -/

namespace Sys2Proof

/-- A bit, 0 or 1 (00_scope R9). -/
abbrev Bit := BitVec 1

/-- A byte, 0 to 255 (20_memory R51). -/
abbrev Byte := BitVec 8

/-- A Frame as the 11-bit word W of 30_encoding R74: `W[i]` is the i-th bit of the Frame in arrival order. -/
abbrev FrameWord := BitVec 11

/-- The search window, `WIN[0]` newest (10_state R29). -/
abbrev WindowWord := BitVec 3

/-- A Record: its bytes in the order they were appended (20_memory R51). -/
abbrev Record := List Byte

/-- The seven formats of the opcode table (30_encoding R70). -/
inductive Format where
  | inSym
  | fmPair
  | syncMarker
  | frame
  | textIn
  | event
  | tapRecord
  deriving DecidableEq, Repr

/-- One unit of one format, as the stage that decodes that format is handed it (30_encoding R70). The words carry the
bits the table gives; beside them stand the operands of the format's rule that the table gives no bits:
the index of the marker's first bit (R141), the index of the Frame's first bit (R144), and the fields of an event (R78). -/
inductive FormatWord where
  /-- The wire word `rst, in_eos, in_valid, in_bit`, bit 3 to bit 0. -/
  | inSym (w : BitVec 4)
  /-- The word `s, a, b`, bit 2 to bit 0. -/
  | fmPair (w : BitVec 3)
  /-- The window `W2 W1 W0`, oldest in bit 2, and the index of its oldest bit. -/
  | syncMarker (w : WindowWord) (first : Nat)
  /-- The Frame word and the index of the Frame's first bit. -/
  | frame (w : FrameWord) (q : Nat)
  /-- One character's byte value. -/
  | textIn (c : Byte)
  /-- An event's code byte and its fields in the order of R78. -/
  | event (code : Byte) (fields : List Nat)
  /-- The bytes of one `tap_record`, offset 0 first. -/
  | tapRecord (bytes : List Byte)
  deriving DecidableEq, Repr

/-- The format a word belongs to. -/
def FormatWord.format : FormatWord → Format
  | .inSym _ => .inSym
  | .fmPair _ => .fmPair
  | .syncMarker _ _ => .syncMarker
  | .frame _ _ => .frame
  | .textIn _ => .textIn
  | .event _ _ => .event
  | .tapRecord _ => .tapRecord

end Sys2Proof
end

