-- ==== Sys2Proof/Config.lean ====
section
/-! DEFINITION. What is fixed for a run: the constants of 00_scope R7 and the configuration inputs of 00_scope R8 and
10_state R24. No value of a step is left open by the spec, so there is no free value here. -/

namespace Sys2Proof

/-- LineState, "the decoder's notion of last line level" (00_scope R13, 10_state R26). -/
inductive LineState where
  | low
  | high
  deriving DecidableEq, Repr

/-- `PAIR_W`: channel samples per decode step (00_scope R7). -/
def Config.pairW : Nat := 2

/-- `MARKER`: the SyncMarker `0,1,0`, as the search window shows it (00_scope R7, 30_encoding R73). -/
def Config.marker : WindowWord := 0b010#3

/-- `MARKER` as a sequence of LogicalBits, earliest first (00_scope R7). -/
def Config.markerBits : List Bit := [0#1, 1#1, 0#1]

/-- `MARKER_W`: the length of the SyncMarker (00_scope R7). -/
def Config.markerW : Nat := 3

/-- `FRAME_W`: LogicalBits per Frame (00_scope R7). -/
def Config.frameW : Nat := 11

/-- `DATA_W`: data bits per Frame, the first 8 (00_scope R7). -/
def Config.dataW : Nat := 8

/-- `TRAILER_W`: trailer bits per Frame, the last 3 (00_scope R7). -/
def Config.trailerW : Nat := 3

/-- `END_FRAME`: eleven 1s (00_scope R7, 30_encoding R75). -/
def Config.endFrame : FrameWord := 0x7FF#11

/-- `LEN_BYTES`: the bytes of a TAP length field (00_scope R7, 30_encoding R77). -/
def Config.lenBytes : Nat := 4

/-- The default and the largest value of `rec_cap`, 2^32 − 1 (00_scope R8, 20_memory R51). -/
def Config.maxRecCap : Nat := 4294967295

/-- The configuration inputs (00_scope R8, 10_state R24), held constant from one RESET to the next (70 R257).
`cntW` is `CNT_W`: `none` stands for infinity. -/
structure Cfg where
  initLineState : LineState
  sinkAttached : Bool
  recCap : Nat
  cntW : Option Nat
  deriving DecidableEq, Repr

/-- The configuration is in its domain: 1 ≤ `rec_cap` ≤ 2^32 − 1 (00_scope R8). -/
def Cfg.wf (c : Cfg) : Bool := decide (1 ≤ c.recCap) && decide (c.recCap ≤ Config.maxRecCap)

/-- The defaults of 00_scope R8. `init_line_state` has no default in the spec: LOW is a DESIGN CHOICE (unsafe, log
entry 8), the value the spec's vectors use unless marked; statements quantify over the configuration. -/
def Cfg.default : Cfg :=
  { initLineState := .low, sinkAttached := true, recCap := Config.maxRecCap, cntW := none }

end Sys2Proof
end

