-- ==== Sys2Proof/Machine/Operands.lean ====
section
/-! DEFINITION. The operand forms: fields of the wire word, the pair word, the search window and the Frame word
(30_encoding R70 to R76), the decode of a pair (41 R122), and the bytes of a TAP length field (60 R230).
These are pure functions over words; they read no state. -/

namespace Sys2Proof.Machine

open Sys2Proof

/-- The level of a LineState: LOW = 0, HIGH = 1 (10_state R26). -/
def lineLevel : LineState → Bit
  | .low => 0#1
  | .high => 1#1

/-- The LineState of a level: the inverse encoding of 10_state R26. -/
def lineOfLevel (b : Bit) : LineState := if b = 1#1 then .high else .low

/-- `in_bit`, bit 0 of the wire word (30 R70). -/
def symBit (w : BitVec 4) : Bit := w.extractLsb' 0 1

/-- `rst, in_eos, in_valid`, bits 3 to 1 of the wire word (30 R70). -/
def symKind (w : BitVec 4) : BitVec 3 := w.extractLsb' 1 3

/-- `s`, bit 2 of the pair word (30 R70, R71). -/
def pairS (w : BitVec 3) : Bit := w.extractLsb' 2 1

/-- `a`, the earlier sample, bit 1 of the pair word (30 R70, 20 R58). -/
def pairA (w : BitVec 3) : Bit := w.extractLsb' 1 1

/-- `b`, the later sample, bit 0 of the pair word (30 R70, 20 R58). -/
def pairB (w : BitVec 3) : Bit := w.extractLsb' 0 1

/-- The pair word `s, a, b` (30 R70). -/
def pairWord (s a b : Bit) : BitVec 3 := (s ++ a) ++ b

/-- `decode_pair(a, b, s)` (41 R122): the LogicalBit, or none for an invalid pair, and the new LineState. -/
def decodePair (a b : Bit) (s : LineState) : Option Bit × LineState :=
  if a = lineLevel s then (none, s)
  else if b = a then (some 1#1, lineOfLevel b)
  else (some 0#1, lineOfLevel b)

/-- The search window with the next LogicalBit shifted in: WIN[1:0], d with d newest in WIN[0] (42 R141). -/
def windowPush (w : WindowWord) (d : Bit) : WindowWord := (w.extractLsb' 0 2) ++ d

/-- `min(WFILL + 1, 3)` in the 2 bits of WFILL (42 R141, 10_state R29). -/
def fillPush (n : BitVec 2) : BitVec 2 := if n = 3#2 then 3#2 else n + 1#2

/-- `FRM[i] <- d` (42 R143): bit i is written, the other bits are kept. -/
def frameSet (w : FrameWord) (i : Nat) (d : Bit) : FrameWord :=
  (w &&& ~~~(1#11 <<< i)) ||| ((d.setWidth 11) <<< i)

/-- The data byte `W[7:0]`, LSB = F[0] (30 R74, R76; 20 R56). -/
def frameByte (w : FrameWord) : Byte := w.extractLsb' 0 8

/-- The trailer `W[10:8]` (30 R74). -/
def frameTrailer (w : FrameWord) : BitVec 3 := w.extractLsb' 8 3

/-- Bit i of the Frame in arrival order, F[i] = W[i] (30 R74). -/
def frameBit (w : FrameWord) (i : Nat) : Bit := w.extractLsb' i 1

/-- The DATA Frame word of a byte: trailer 010 above the byte (30 R75). -/
def frameOfByte (v : Byte) : FrameWord := Config.marker ++ v

/-- The three Frame classes of 30 R75. -/
inductive FrameClass where
  | endMark
  | data
  | violation
  deriving DecidableEq, Repr

/-- The class of a Frame word, tested in the order END, DATA, VIOLATION (30 R75). -/
def frameClass (w : FrameWord) : FrameClass :=
  if w = Config.endFrame then .endMark
  else if frameTrailer w = Config.marker then .data
  else .violation

/-- `le32(n)`: the low 32 bits of n in four bytes, least significant first (60 R230, 20 R57). -/
def le32 (n : Nat) : List Byte :=
  [BitVec.ofNat 8 n, BitVec.ofNat 8 (n / 256), BitVec.ofNat 8 (n / 65536), BitVec.ofNat 8 (n / 16777216)]

/-- The number four little-endian bytes stand for (30 R77). -/
def ofLe32 (b0 b1 b2 b3 : Byte) : Nat :=
  b0.toNat + 256 * b1.toNat + 65536 * b2.toNat + 16777216 * b3.toNat

/-- `emit(record)` of the Record Emitter (60 R230): none for an empty Record, else the framed bytes. -/
def emitRecord (r : Record) : Option (List Byte) :=
  if r.length = 0 then none else some (le32 r.length ++ r ++ le32 r.length)

/-- The TAP stream of a sequence of Records (60 R231): their serialisations back to back. -/
def tapStream (rs : List Record) : List Byte :=
  rs.flatMap (fun r => (emitRecord r).getD [])

end Sys2Proof.Machine
end

