-- ==== Sys2Proof/Syntax.lean ====
section
/-! DEFINITION. The 26 rows of spec/opcode_table.json, one constructor each, in the table's order. -/

namespace Sys2Proof

/-- One decoded unit of one format. Operands that a row's word fixes are not repeated; operands the table gives no bits
(positions, event fields) are plain naturals (30_encoding R70, R78; log entries 2 and 7). -/
inductive Instr where
  /-- SAMPLE(b): take one channel sample (40 R100). -/
  | sample (b : Bit)
  /-- EOS: end of the channel sequence (40 R102). -/
  | eos
  /-- RESET: begin a new run (70 R250). -/
  | reset
  /-- FM_LOW_11: pair (1,1) from LOW, LogicalBit 1 (30 R71). -/
  | fmLow11
  /-- FM_LOW_10: pair (1,0) from LOW, LogicalBit 0 (30 R71). -/
  | fmLow10
  /-- FM_HIGH_00: pair (0,0) from HIGH, LogicalBit 1 (30 R71). -/
  | fmHigh00
  /-- FM_HIGH_01: pair (0,1) from HIGH, LogicalBit 0 (30 R71). -/
  | fmHigh01
  /-- FM_LOW_INVALID: pair (0,b) from LOW, invalid (30 R71). -/
  | fmLowInvalid (b : Bit)
  /-- FM_HIGH_INVALID: pair (1,b) from HIGH, invalid (30 R71). -/
  | fmHighInvalid (b : Bit)
  /-- SYNC_MARKER: the search window reads 010; `first` is the index of its oldest bit (42 R141). -/
  | syncMarker (first : Nat)
  /-- FRAME_END: eleven 1s; `q` is the index of the Frame's first bit (42 R146). -/
  | frameEnd (q : Nat)
  /-- FRAME_DATA: trailer 010, byte `v`; `q` as above (42 R145). -/
  | frameData (v : Byte) (q : Nat)
  /-- FRAME_VIOLATION: any other Frame word; `q` as above (42 R147). -/
  | frameViolation (w : FrameWord) (q : Nat)
  /-- TEXT_0: the character '0' (60 R220). -/
  | text0
  /-- TEXT_1: the character '1' (60 R220). -/
  | text1
  /-- TEXT_OTHER: any other character (60 R220). -/
  | textOther (c : Byte)
  /-- EV_LBIT(p, d) (30 R78). -/
  | evLbit (p : Nat) (d : Bit)
  /-- EV_PAIR_ERR(k, a, b) (30 R78). -/
  | evPairErr (k : Nat) (a b : Bit)
  /-- EV_MARKER(p) (30 R78). -/
  | evMarker (p : Nat)
  /-- EV_FRAME_BYTE(p, v) (30 R78). -/
  | evFrameByte (p : Nat) (v : Byte)
  /-- EV_FRAME_END(p) (30 R78). -/
  | evFrameEnd (p : Nat)
  /-- EV_SYNC_VIOL(p, (t0, t1, t2)) with the trailer triple (F[8], F[9], F[10]) (30 R76, R78). -/
  | evSyncViol (p : Nat) (t0 t1 t2 : Bit)
  /-- EV_INCOMPLETE(f) (30 R78). -/
  | evIncomplete (f : Nat)
  /-- EV_RECORD(n) (30 R78). -/
  | evRecord (n : Nat)
  /-- EV_DONE (30 R78). -/
  | evDone
  /-- TAP_RECORD: one Record as the Record Emitter serialises it (30 R77, 60 R230). -/
  | tapRecord (payload : List Byte)
  deriving DecidableEq, Repr

/-- The format whose table section the row stands in. -/
def Instr.format : Instr → Format
  | .sample _ => .inSym
  | .eos => .inSym
  | .reset => .inSym
  | .fmLow11 => .fmPair
  | .fmLow10 => .fmPair
  | .fmHigh00 => .fmPair
  | .fmHigh01 => .fmPair
  | .fmLowInvalid _ => .fmPair
  | .fmHighInvalid _ => .fmPair
  | .syncMarker _ => .syncMarker
  | .frameEnd _ => .frame
  | .frameData _ _ => .frame
  | .frameViolation _ _ => .frame
  | .text0 => .textIn
  | .text1 => .textIn
  | .textOther _ => .textIn
  | .evLbit _ _ => .event
  | .evPairErr _ _ _ => .event
  | .evMarker _ => .event
  | .evFrameByte _ _ => .event
  | .evFrameEnd _ => .event
  | .evSyncViol _ _ _ _ => .event
  | .evIncomplete _ => .event
  | .evRecord _ => .event
  | .evDone => .event
  | .tapRecord _ => .tapRecord

end Sys2Proof
end

