-- ==== Sys2Proof/WellFormed.lean ====
section
/-! DEFINITION. Which instructions stand for a word of the table: the side conditions of the catch-all rows and of the
operands the table gives no bits. -/

namespace Sys2Proof

open Sys2Proof.Machine

/-- The instruction is one the table's formats can hold (30_encoding R70, R75, R77, R78; 60 R220). Operands not named
here may take every value of their type. A TAP_RECORD may hold up to 2^32 − 1 bytes (R77) whatever rec_cap is (R70): DESIGN
CHOICE, log entry 20. -/
def Instr.wf : Instr → Bool
  | .sample _ => true
  | .eos => true
  | .reset => true
  | .fmLow11 => true
  | .fmLow10 => true
  | .fmHigh00 => true
  | .fmHigh01 => true
  | .fmLowInvalid _ => true
  | .fmHighInvalid _ => true
  | .syncMarker _ => true
  | .frameEnd _ => true
  | .frameData _ _ => true
  | .frameViolation w _ => decide (frameClass w = .violation)
  | .text0 => true
  | .text1 => true
  | .textOther c => decide (c ≠ 0x30#8) && decide (c ≠ 0x31#8)
  | .evLbit _ _ => true
  | .evPairErr _ _ _ => true
  | .evMarker _ => true
  | .evFrameByte _ _ => true
  | .evFrameEnd _ => true
  | .evSyncViol _ _ _ _ => true
  | .evIncomplete f => decide (f ≤ 10)
  | .evRecord n => decide (1 ≤ n)
  | .evDone => true
  | .tapRecord p => decide (1 ≤ p.length) && decide (p.length ≤ Config.maxRecCap)

/-- Well-formedness as a proposition. -/
abbrev Instr.WellFormed (i : Instr) : Prop := i.wf = true

end Sys2Proof
end

