-- ==== Sys2Proof/Decode.lean ====
section
/-! DEFINITION. The decoder, total on every word of every format and rejecting by name (30_encoding), then the encoder
from the same tables, then the host's view of a table word. -/

namespace Sys2Proof

open Sys2Proof.Machine

/-- Why a word of a format is no row of the table. -/
inductive DecodeError where
  /-- Wire word with bits 3 to 1 clear: no symbol and no step (30 R70). -/
  | noSymbol
  /-- Wire word with two or more of bits 3 to 1 set: not a host move (30 R70, 60 R234). -/
  | severalSymbols
  /-- A search window that is not the SyncMarker: the scan goes on (42 R141). -/
  | notMarker
  /-- An event code that is none of 0x01 to 0x09 (30 R78). -/
  | unknownEvent
  /-- Event fields that are not those of the code's event (30 R78). -/
  | badEventFields
  /-- Bytes that are no `tap_record` (30 R77). -/
  | badTapRecord
  deriving DecidableEq, Repr

/-- The `in_sym` rows (30 R70): the kind selects the symbol; bit 0 is SAMPLE's operand and ignored by EOS and RESET. -/
def decodeInSym (w : BitVec 4) : Except DecodeError Instr :=
  if symKind w = 0b001#3 then .ok (.sample (symBit w))
  else if symKind w = 0b010#3 then .ok .eos
  else if symKind w = 0b100#3 then .ok .reset
  else if symKind w = 0b000#3 then .error .noSymbol
  else .error .severalSymbols

/-- The `fm_pair` rows (30 R71). Every 3-bit word is one row. -/
def decodeFmPair (w : BitVec 3) : Instr :=
  if w = 0b011#3 then .fmLow11
  else if w = 0b010#3 then .fmLow10
  else if w = 0b100#3 then .fmHigh00
  else if w = 0b101#3 then .fmHigh01
  else if pairS w = 0#1 then .fmLowInvalid (pairB w)
  else .fmHighInvalid (pairB w)

/-- The `frame` rows, matched END, DATA, VIOLATION (30 R75). Every 11-bit word is one row. -/
def decodeFrame (w : FrameWord) (q : Nat) : Instr :=
  match frameClass w with
  | .endMark => .frameEnd q
  | .data => .frameData (frameByte w) q
  | .violation => .frameViolation w q

/-- The `text_in` rows (60 R220). Every character is one row. -/
def decodeText (c : Byte) : Instr :=
  if c = 0x30#8 then .text0
  else if c = 0x31#8 then .text1
  else .textOther c

/-- A field of an event that is one bit. -/
def fieldBit (n : Nat) : Option Bit := if n < 2 then some (BitVec.ofNat 1 n) else none

/-- A field of an event that is one byte. -/
def fieldByte (n : Nat) : Option Byte := if n < 256 then some (BitVec.ofNat 8 n) else none

/-- The fields of the event rows, in the order of 30 R78; `none` where they are not those of the event. -/
def decodeEventFields (code : Byte) (fields : List Nat) : Option Instr :=
  if code = 0x01#8 then
    match fields with
    | [p, d] => (fieldBit d).map (fun d => .evLbit p d)
    | _ => none
  else if code = 0x02#8 then
    match fields with
    | [k, a, b] => (fieldBit a).bind (fun a => (fieldBit b).map (fun b => .evPairErr k a b))
    | _ => none
  else if code = 0x03#8 then
    match fields with
    | [p] => some (.evMarker p)
    | _ => none
  else if code = 0x04#8 then
    match fields with
    | [p, v] => (fieldByte v).map (fun v => .evFrameByte p v)
    | _ => none
  else if code = 0x05#8 then
    match fields with
    | [p] => some (.evFrameEnd p)
    | _ => none
  else if code = 0x06#8 then
    match fields with
    | [p, t0, t1, t2] =>
      (fieldBit t0).bind (fun t0 => (fieldBit t1).bind (fun t1 => (fieldBit t2).map (fun t2 => .evSyncViol p t0 t1 t2)))
    | _ => none
  else if code = 0x07#8 then
    match fields with
    | [f] => if f ≤ 10 then some (.evIncomplete f) else none
    | _ => none
  else if code = 0x08#8 then
    match fields with
    | [n] => if 1 ≤ n then some (.evRecord n) else none
    | _ => none
  else
    match fields with
    | [] => some .evDone
    | _ => none

/-- The `event` rows (30 R78). -/
def decodeEvent (code : Byte) (fields : List Nat) : Except DecodeError Instr :=
  if 1 ≤ code.toNat ∧ code.toNat ≤ 9 then
    match decodeEventFields code fields with
    | some i => .ok i
    | none => .error .badEventFields
  else .error .unknownEvent

/-- The `tap_record` row (30 R77): a length of at least 1, that many payload bytes, and the same length again.
The length is bounded by its 32-bit field, as R77 bounds it, and not by rec_cap, as R70 does (DESIGN CHOICE, log entry 20). -/
def decodeTap (bytes : List Byte) : Except DecodeError Instr :=
  match bytes with
  | b0 :: b1 :: b2 :: b3 :: rest =>
    let n := ofLe32 b0 b1 b2 b3
    if 1 ≤ n ∧ rest.length = n + Config.lenBytes ∧ rest.drop n = [b0, b1, b2, b3] then .ok (.tapRecord (rest.take n))
    else .error .badTapRecord
  | _ => .error .badTapRecord

/-- The decoder of every format (30_encoding, opcode_table.json). -/
def decode : FormatWord → Except DecodeError Instr
  | .inSym w => decodeInSym w
  | .fmPair w => .ok (decodeFmPair w)
  | .syncMarker w first => if w = Config.marker then .ok (.syncMarker first) else .error .notMarker
  | .frame w q => .ok (decodeFrame w q)
  | .textIn c => .ok (decodeText c)
  | .event code fields => decodeEvent code fields
  | .tapRecord bytes => decodeTap bytes

/-- The encoder, from the same tables. A bit the table ignores (bit 0 of EOS and RESET) is written 0. -/
def encode : Instr → FormatWord
  | .sample b => .inSym (0b001#3 ++ b)
  | .eos => .inSym 0b0100#4
  | .reset => .inSym 0b1000#4
  | .fmLow11 => .fmPair 0b011#3
  | .fmLow10 => .fmPair 0b010#3
  | .fmHigh00 => .fmPair 0b100#3
  | .fmHigh01 => .fmPair 0b101#3
  | .fmLowInvalid b => .fmPair (pairWord 0#1 0#1 b)
  | .fmHighInvalid b => .fmPair (pairWord 1#1 1#1 b)
  | .syncMarker first => .syncMarker Config.marker first
  | .frameEnd q => .frame Config.endFrame q
  | .frameData v q => .frame (frameOfByte v) q
  | .frameViolation w q => .frame w q
  | .text0 => .textIn 0x30#8
  | .text1 => .textIn 0x31#8
  | .textOther c => .textIn c
  | .evLbit p d => .event 0x01#8 [p, d.toNat]
  | .evPairErr k a b => .event 0x02#8 [k, a.toNat, b.toNat]
  | .evMarker p => .event 0x03#8 [p]
  | .evFrameByte p v => .event 0x04#8 [p, v.toNat]
  | .evFrameEnd p => .event 0x05#8 [p]
  | .evSyncViol p t0 t1 t2 => .event 0x06#8 [p, t0.toNat, t1.toNat, t2.toNat]
  | .evIncomplete f => .event 0x07#8 [f]
  | .evRecord n => .event 0x08#8 [n]
  | .evDone => .event 0x09#8 []
  | .tapRecord p => .tapRecord (le32 p.length ++ p ++ le32 p.length)

/-- The format word a table word of `nbits` bits stands for. The table's words carry no format, and words of different
formats coincide, so the formats are tried in the table's order (DESIGN CHOICE, log entry 3):
widths 3, 4 and 11 are those of one format or two; 16 bits hold a Frame; a byte is a wire word if that is a symbol,
else a pair word if it is below 8, else a character. Operands without bits are 0. -/
def tableWord (nbits w : Nat) : FormatWord :=
  if nbits = 3 then .fmPair (BitVec.ofNat 3 w)
  else if nbits = 4 then .inSym (BitVec.ofNat 4 w)
  else if nbits = 11 ∨ nbits = 16 then .frame (BitVec.ofNat 11 w) 0
  else if (2 ≤ w ∧ w ≤ 5) ∨ w = 8 ∨ w = 9 then .inSym (BitVec.ofNat 4 w)
  else if w < 8 then .fmPair (BitVec.ofNat 3 w)
  else .textIn (BitVec.ofNat 8 w)

/-- The host's view of the decoder: the instruction a table word stands for. -/
def decodeTableWord (nbits w : Nat) : Option Instr :=
  match decode (tableWord nbits w) with
  | .ok i => some i
  | .error _ => none

end Sys2Proof
end

