-- ==== Sys2Proof/Machine/State.lean ====
section
/-! DEFINITION. The state of the block as plain data (10_state, 60_exceptions R206), with the configuration, the outputs
and the words yet to be presented; the reasons a step can stop; and the state right after RESET. -/

namespace Sys2Proof.Machine

open Sys2Proof

/-- FSM (10_state R28). The fourth value stands for the encoding 0b11, which no rule reaches (30_encoding R79). -/
inductive Fsm where
  | searching
  | inRecord
  | done
  | unused
  deriving DecidableEq, Repr

/-- The reasons of a model fault (60_exceptions R206). -/
inductive FaultReason where
  /-- SAMPLE or EOS while FSM = DONE. -/
  | protocolViolation
  /-- A data byte to append with RLEN = rec_cap. -/
  | recordOverflow
  /-- A state outside the invariant of 10_state R35. -/
  | unreachable
  deriving DecidableEq, Repr

/-- The output events (30_encoding R78). -/
inductive Event where
  | lbit (p : Nat) (d : Bit)
  | pairErr (k : Nat) (a b : Bit)
  | marker (p : Nat)
  | frameByte (p : Nat) (v : Byte)
  | frameEnd (p : Nat)
  | syncViol (p : Nat) (t0 t1 t2 : Bit)
  | incomplete (f : Nat)
  | record (n : Nat)
  | done
  deriving DecidableEq, Repr

/-- Why the machine stops. -/
inductive Fault where
  /-- Raised by every operation but RESET (and the operations outside the block: TEXT_OTHER, TAP_RECORD) in a state whose
  FAULT register holds `r`: such a state has no step (40 R104, 93 U6). Safe: the spec gives no step there. -/
  | stuck (r : FaultReason)
  deriving DecidableEq, Repr

/-- Why the machine refuses. -/
inductive Refusal where
  /-- Raised by an arm of exec for an instruction that has no meaning yet. Safe. -/
  | notModelled (mnemonic : String)
  /-- Raised by the fm_pair rows when the word's s is not LS: a pair word carries the current LineState (30 R70, R71), so
  no such word exists in that state. Safe. -/
  | lineStateDiffers
  /-- Raised by the frame rows when FSM is not IN_RECORD: no Frame is classified there (42 R140, 10 R30). Safe. -/
  | frameOutsideRecord
  /-- Raised by the step on a word that is no row of its format and for which no rule gives "nothing happens"
  (30 R70, R77, R78). Safe. -/
  | illegalWord (e : DecodeError)
  /-- Raised by a host write to the status view: the block has no write port (10 R34, 93 U9). Safe. -/
  | statusReadOnly
  /-- Raised by a host change of the configuration in the middle of a run (70 R257, 93 U17). Safe. -/
  | configurationInRun
  /-- Raised by a host choice of a configuration outside its domain (00 R8). Safe. -/
  | configurationOutOfDomain
  deriving DecidableEq, Repr

/-- The machine's state. The register names are the spec's, in lower camel case. `rcd` holds REC, and RLEN is its length
(10_state R31). `sink`, `tap` and `input` are the model's record of the outputs and of the input sequence
(log entries 1 and 10). -/
structure State where
  cfg : Cfg
  ls : LineState
  hv : Bit
  ha : Bit
  fsm : Fsm
  win : WindowWord
  wfill : BitVec 2
  frm : FrameWord
  ffill : BitVec 4
  rcd : Record
  nCh : Nat
  nPair : Nat
  nErr : Nat
  nLb : Nat
  nMark : Nat
  nFrame : Nat
  nRec : Nat
  fault : Option FaultReason
  trace : List Event
  sink : List Record
  tap : List Byte
  input : List FormatWord
  deriving DecidableEq, Repr

/-- RLEN, the length of the open Record (10_state R31). -/
abbrev State.rlen (s : State) : Nat := s.rcd.length

/-- The state RESET makes under a configuration, with the words still to be presented (10_state R36, 70 R250). -/
def State.resetWith (c : Cfg) (input : List FormatWord) : State :=
  { cfg := c
    ls := c.initLineState
    hv := 0#1
    ha := 0#1
    fsm := .searching
    win := 0#3
    wfill := 0#2
    frm := 0#11
    ffill := 0#4
    rcd := []
    nCh := 0
    nPair := 0
    nErr := 0
    nLb := 0
    nMark := 0
    nFrame := 0
    nRec := 0
    fault := none
    trace := []
    sink := []
    tap := []
    input := input }

/-- The machine right after reset under the default configuration (10_state R36, 00_scope R8), nothing presented yet. -/
def State.reset : State := State.resetWith Cfg.default []

end Sys2Proof.Machine
end

