-- ==== Sys2Proof/Machine/Ops.lean ====
section
/-! DEFINITION. The named operations over the registers (00_scope R11): every register is written by one operation here,
the Record buffer's operations (20_memory R52 to R54), raising a model fault, and taking the next word of the input. -/

namespace Sys2Proof.Machine

open Sys2Proof

/-- `emit E(args)`: append the event to the trace (00 R11). -/
def emit (e : Event) (s : State) : State := { s with trace := s.trace ++ [e] }

/-- `raise Fault(reason)`: FAULT is set and the step ends; events already emitted stay (60 R206). The one operation that
takes an exception. -/
def raise (r : FaultReason) (s : State) : State := { s with fault := some r }

/-- `LS <- l` (41 R123). -/
def setLs (l : LineState) (s : State) : State := { s with ls := l }

/-- `HV <- 1; HA <- b` (41 R120). -/
def latch (b : Bit) (s : State) : State := { s with hv := 1#1, ha := b }

/-- `HV <- 0; HA <- 0` (41 R120, 40 R102). -/
def unlatch (s : State) : State := { s with hv := 0#1, ha := 0#1 }

/-- `FSM <- f` (42 R141, R146, R147; 40 R102). -/
def setFsm (f : Fsm) (s : State) : State := { s with fsm := f }

/-- WIN and WFILL written (42 R141). -/
def setWindow (w : WindowWord) (n : BitVec 2) (s : State) : State := { s with win := w, wfill := n }

/-- FRM and FFILL written (42 R143). -/
def setFrame (w : FrameWord) (n : BitVec 4) (s : State) : State := { s with frm := w, ffill := n }

/-- N_CH + 1 (40 R100). -/
def countCh (s : State) : State := { s with nCh := s.nCh + 1 }

/-- N_PAIR + 1 (41 R121). -/
def countPair (s : State) : State := { s with nPair := s.nPair + 1 }

/-- N_ERR + 1 (41 R124). -/
def countErr (s : State) : State := { s with nErr := s.nErr + 1 }

/-- N_LB + 1 (41 R123). -/
def countLb (s : State) : State := { s with nLb := s.nLb + 1 }

/-- N_MARK + 1 (42 R141). -/
def countMark (s : State) : State := { s with nMark := s.nMark + 1 }

/-- N_FRAME + 1 (42 R144). -/
def countFrame (s : State) : State := { s with nFrame := s.nFrame + 1 }

/-- N_REC + 1 (42 R160). -/
def countRec (s : State) : State := { s with nRec := s.nRec + 1 }

/-- REC with the byte appended (20 R52, the append itself). -/
def pushByte (v : Byte) (s : State) : State := { s with rcd := s.rcd ++ [v] }

/-- `RecClear()` (20 R53). -/
def recClear (s : State) : State := { s with rcd := [] }

/-- The Record Emitter writes a Record to the TAP stream (60 R230, R231). -/
def serialise (r : Record) (s : State) : State := { s with tap := s.tap ++ (emitRecord r).getD [] }

/-- The sink port receives a Record (10 R25(b)). -/
def deliver (r : Record) (s : State) : State := { s with sink := s.sink ++ [r] }

/-- The words still to be presented. -/
def setInput (ws : List FormatWord) (s : State) : State := { s with input := ws }

/-- `RecAppend(v)` (20 R52). -/
def recAppend (v : Byte) (s : State) : State :=
  if s.rlen = s.cfg.recCap then raise .recordOverflow s else pushByte v s

/-- `RecOut(rec)` (20 R54): the sink port receives the whole Record, and the emitter attached to it serialises it. -/
def recOut (r : Record) (s : State) : State := serialise r (deliver r s)

/-- `FLUSH()` (42 R160): hand the Record on if it is not empty, then clear it. -/
def flush (s : State) : State :=
  if 1 ≤ s.rlen then recClear (emit (.record s.rlen) (countRec (recOut s.rcd s))) else recClear s

/-- Back to SEARCHING with an empty search window (42 R146, R147; 10 R29). -/
def enterSearching (s : State) : State := setFsm .searching (setWindow 0#3 0#2 s)

/-- RESET's writes (70 R250): the state of 10 R36 under the configuration inputs, which RESET does not change. The words
still to be presented are the host's and stay. The record of the outputs starts anew with the run (log entry 10). -/
def resetRun (s : State) : State := State.resetWith s.cfg s.input

/-- The next word of the input and the state after it is taken; none where nothing is presented (10 R21, R23). -/
def fetch (s : State) : Option (FormatWord × State) :=
  match s.input with
  | [] => none
  | w :: ws => some (w, setInput ws s)

/-- A table word placed where the step fetches next, with what its format needs beside it (log entry 4): a pair word
carries LineState in its bit s, a window word is the search window's contents in SEARCHING, a Frame word belongs to
IN_RECORD. -/
def placeWord (w : FormatWord) (s : State) : State :=
  match w with
  | .inSym _ => setInput (w :: s.input) s
  | .fmPair p => setLs (lineOfLevel (pairS p)) (setInput (w :: s.input) s)
  | .syncMarker m _ => setFsm .searching (recClear (setFrame 0#11 0#4 (setWindow m 3#2 (setInput (w :: s.input) s))))
  | .frame _ _ => setFsm .inRecord (setWindow 0#3 0#2 (setInput (w :: s.input) s))
  | .textIn _ => setInput (w :: s.input) s
  | .event _ _ => setInput (w :: s.input) s
  | .tapRecord _ => setInput (w :: s.input) s

end Sys2Proof.Machine
end

