-- ==== Sys2Proof/Machine/Flags.lean ====
section
/-! DEFINITION. The conditions an operation tests before it acts: the clauses of the invariant of 10_state R35, and the
guards that stop a step, raise a model fault, or let the operation run (40 R100, R102, R104; 60 R206; 30 R79). -/

namespace Sys2Proof.Machine

open Sys2Proof

/-- The clauses of 10_state R35 about the registers (not the counters). -/
def regsOk (s : State) : Bool :=
  decide (s.fsm ≠ .unused) && decide (s.fsm = .searching ∨ s.wfill = 0#2) && decide (s.ffill.toNat ≤ 10) &&
    decide (s.fsm = .inRecord ∨ s.ffill = 0#4) && decide (s.hv = 0#1 → s.ha = 0#1) &&
    decide (s.fsm = .inRecord ∨ s.rlen = 0) && decide (s.rlen ≤ s.cfg.recCap) &&
    decide (s.cfg.sinkAttached = true ∨ s.rlen = 0)

/-- The clauses of 10_state R35 about the counters. -/
def countsOk (s : State) : Bool :=
  decide (s.nLb + s.nErr = s.nPair) && decide (s.nPair = s.nCh / 2) &&
    decide (s.fsm = .done ∨ s.hv.toNat = s.nCh % 2)

/-- The whole invariant of 10_state R35. -/
def reachable (s : State) : Bool := regsOk s && countsOk s

/-- The start of SAMPLE and of EOS (40 R100, R102): no step in a faulted state; Unreachable outside 10 R35 (30 R79,
60 R206, log entry 6); ProtocolViolation in DONE; else the operation. -/
def takeSymbol (act : State → State) (s : State) : Host.Outcome State Fault Refusal :=
  match s.fault with
  | some r => .fault (.stuck r)
  | none =>
    if reachable s then
      if s.fsm = .done then .next (raise .protocolViolation s) else .next (act s)
    else .next (raise .unreachable s)

/-- The start of an operation inside a step (a pair, the marker test, a Frame): no step in a faulted state (40 R104);
Unreachable where a register is outside 10 R35 (the counters are in motion within a step); else the operation. -/
def withinStep (act : State → Host.Outcome State Fault Refusal) (s : State) : Host.Outcome State Fault Refusal :=
  match s.fault with
  | some r => .fault (.stuck r)
  | none => if regsOk s then act s else .next (raise .unreachable s)

/-- An event handed to the output (00 R11): none is emitted in a faulted state (60 R206). -/
def output (e : Event) (s : State) : Host.Outcome State Fault Refusal :=
  match s.fault with
  | some r => .fault (.stuck r)
  | none => .next (emit e s)

end Sys2Proof.Machine
end

