-- ==== Sys2Proof/Machine/FrameClassifier.lean ====
section
/-! DEFINITION. The frame classifier and record state machine (42_frame_classifier): one function per rule, each a total
function of the state, written from the rule's pseudocode. -/

namespace Sys2Proof.Machine

open Sys2Proof

/-- What a recognised SyncMarker does; `first` is the index of its first bit, p − 2 (42 R141). -/
def markerMatch (first : Nat) (s : State) : State :=
  setFsm .inRecord (recClear (setFrame 0#11 0#4 (setWindow 0#3 0#2 (emit (.marker first) (countMark s)))))

/-- The test of SEARCH_STEP: WFILL = 3 and WIN = 0b010 (42 R141, 30 R73). -/
def markerTest (first : Nat) (s : State) : State :=
  if s.wfill = 3#2 ∧ s.win = Config.marker then markerMatch first s else s

/-- `SEARCH_STEP(d, p)` (42 R141). -/
def searchStep (d : Bit) (p : Nat) (s : State) : State :=
  markerTest (p - 2) (setWindow (windowPush s.win d) (fillPush s.wfill) s)

/-- `FRAME_DATA_ACTION(W, q)` for the byte v = W[7:0] (42 R145): the event is emitted before the append, which may raise
RecordOverflow and is not made without a sink (42 R151). -/
def frameDataAction (v : Byte) (q : Nat) (s : State) : State :=
  if s.cfg.sinkAttached then recAppend v (emit (.frameByte q v) s) else emit (.frameByte q v) s

/-- `FRAME_END_ACTION(q)` (42 R146). -/
def frameEndAction (q : Nat) (s : State) : State := enterSearching (flush (emit (.frameEnd q) s))

/-- `FRAME_VIOL_ACTION(W, q)` (42 R147): the trailer reported is (W[8], W[9], W[10]). -/
def frameViolAction (w : FrameWord) (q : Nat) (s : State) : State :=
  enterSearching (flush (emit (.syncViol q (frameBit w 8) (frameBit w 9) (frameBit w 10)) s))

/-- `CLASSIFY_FRAME(W, q)` (42 R144). -/
def classifyFrame (w : FrameWord) (q : Nat) (s : State) : State :=
  match frameClass w with
  | .endMark => frameEndAction q (countFrame s)
  | .data => frameDataAction (frameByte w) q (countFrame s)
  | .violation => frameViolAction w q (countFrame s)

/-- A complete Frame is consumed: FRM and FFILL go back to 0 in the step that classifies it (42 R143, 10 R30). -/
def takeFrame (w : FrameWord) (q : Nat) (s : State) : State := classifyFrame w q (setFrame 0#11 0#4 s)

/-- `FRAME_STEP(d, p)` (42 R143). -/
def frameStep (d : Bit) (p : Nat) (s : State) : State :=
  if s.ffill.toNat < 10 then setFrame (frameSet s.frm s.ffill.toNat d) (s.ffill + 1#4) s
  else takeFrame (frameSet s.frm s.ffill.toNat d) (p - 10) s

/-- `CLASSIFY_BIT(d, p)` (42 R140). DONE does not occur here, since SAMPLE faults first; 0b11 has no rule. -/
def classifyBit (d : Bit) (p : Nat) (s : State) : State :=
  match s.fsm with
  | .searching => searchStep d p s
  | .inRecord => frameStep d p s
  | .done => s
  | .unused => s

/-- `END_OF_RECORD_STREAM()` (42 R150). -/
def endOfRecordStream (s : State) : State := flush (emit (.incomplete s.ffill.toNat) s)

end Sys2Proof.Machine
end

