-- ==== Sys2Proof/Machine/LineDecoder.lean ====
section
/-! DEFINITION. The FM line decoder (41_fm_line_decoder) and the block operations that drive it (40_block_ops): one
function per rule. -/

namespace Sys2Proof.Machine

open Sys2Proof

/-- `VALID_PAIR(d, ls')` (41 R123). -/
def validPair (d : Bit) (l : LineState) (s : State) : State :=
  classifyBit d s.nLb (emit (.lbit s.nLb d) (countLb (setLs l s)))

/-- `INVALID_PAIR(k, a, b)` (41 R124): LS, N_LB and the classifier are not touched. -/
def invalidPair (k : Nat) (a b : Bit) (s : State) : State := emit (.pairErr k a b) (countErr s)

/-- `DECODE_STEP(a, b)` (41 R121). -/
def decodeStep (a b : Bit) (s : State) : State :=
  match decodePair a b s.ls with
  | (none, _) => invalidPair s.nPair a b (countPair s)
  | (some d, l) => validPair d l (countPair s)

/-- `PAIR_STEP(b)` (41 R120). -/
def pairStep (b : Bit) (s : State) : State :=
  if s.hv = 0#1 then latch b s else decodeStep s.ha b (unlatch s)

/-- The body of `SAMPLE(b)` once its guards are passed (40 R100). -/
def sampleAct (b : Bit) (s : State) : State := pairStep b (countCh s)

/-- The end of a record stream when EOS comes in IN_RECORD, and nothing otherwise (40 R102). -/
def closeRecord (s : State) : State := if s.fsm = .inRecord then endOfRecordStream s else s

/-- The body of `EOS` once its guards are passed (40 R102). -/
def eosAct (s : State) : State :=
  emit .done (setFsm .done (setFrame 0#11 0#4 (setWindow 0#3 0#2 (closeRecord (unlatch s)))))

/-- SAMPLE(b) with its guards (40 R100). -/
def takeSample (b : Bit) (s : State) : Host.Outcome State Fault Refusal := takeSymbol (sampleAct b) s

/-- EOS with its guards (40 R102). -/
def takeEos (s : State) : Host.Outcome State Fault Refusal := takeSymbol eosAct s

/-- A whole pair (a, b) whose word says the LineState is `l` (30 R71): DECODE_STEP on it. A word whose s is not LS does
not exist in that state; a pair after the end of the run is input after the end, ProtocolViolation (log entry 2). -/
def takePair (l : LineState) (a b : Bit) (s : State) : Host.Outcome State Fault Refusal :=
  withinStep (fun s =>
    if s.fsm = .done then .next (raise .protocolViolation s)
    else if s.ls = l then .next (decodeStep a b s)
    else .refused .lineStateDiffers) s

/-- A whole Frame word handed to CLASSIFY_FRAME in IN_RECORD (42 R143, R144). -/
def takeFrameWord (w : FrameWord) (q : Nat) (s : State) : Host.Outcome State Fault Refusal :=
  withinStep (fun s =>
    if s.fsm = .inRecord then .next (takeFrame w q s) else .refused .frameOutsideRecord) s

/-- The marker test on the search window, read only in SEARCHING (42 R141, 10 R29); nothing where it does not match. -/
def takeMarker (first : Nat) (s : State) : Host.Outcome State Fault Refusal :=
  withinStep (fun s =>
    if s.fsm = .searching then .next (markerTest first s) else .next s) s

end Sys2Proof.Machine
end

