-- ==== Sys2Proof/Machine/Classifier.lean ====
section
/-! DEFINITION. The meanings of the `sync_marker` row (42 R141) and of the `frame` rows (42 R144 to R147). -/

namespace Sys2Proof.Machine

open Sys2Proof

/-- SYNC_MARKER (42 R141): matched only when WFILL = 3 and FSM = SEARCHING. -/
def execSyncMarker (first : Nat) (s : State) : Host.Outcome State Fault Refusal := takeMarker first s

/-- FRAME_END (42 R146): the word 0x7FF. -/
def execFrameEnd (q : Nat) (s : State) : Host.Outcome State Fault Refusal := takeFrameWord Config.endFrame q s

/-- FRAME_DATA (42 R145): the word with trailer 010 and byte v. -/
def execFrameData (v : Byte) (q : Nat) (s : State) : Host.Outcome State Fault Refusal := takeFrameWord (frameOfByte v) q s

/-- FRAME_VIOLATION (42 R147): a word that is neither. -/
def execFrameViolation (w : FrameWord) (q : Nat) (s : State) : Host.Outcome State Fault Refusal := takeFrameWord w q s

end Sys2Proof.Machine
end

