-- ==== Sys2Proof/Machine/FmPair.lean ====
section
/-! DEFINITION. The meanings of the `fm_pair` rows (30_encoding R71): DECODE_STEP (41 R121) on the row's pair, which the
row's LineState makes a VALID_PAIR (R123) or an INVALID_PAIR (R124). -/

namespace Sys2Proof.Machine

open Sys2Proof

/-- FM_LOW_11: LogicalBit 1, LS becomes HIGH (41 R123). -/
def execFmLow11 (s : State) : Host.Outcome State Fault Refusal := takePair .low 1#1 1#1 s

/-- FM_LOW_10: LogicalBit 0, LS stays LOW (41 R123). -/
def execFmLow10 (s : State) : Host.Outcome State Fault Refusal := takePair .low 1#1 0#1 s

/-- FM_HIGH_00: LogicalBit 1, LS becomes LOW (41 R123). -/
def execFmHigh00 (s : State) : Host.Outcome State Fault Refusal := takePair .high 0#1 0#1 s

/-- FM_HIGH_01: LogicalBit 0, LS stays HIGH (41 R123). -/
def execFmHigh01 (s : State) : Host.Outcome State Fault Refusal := takePair .high 0#1 1#1 s

/-- FM_LOW_INVALID: InvalidLinePair, LS unchanged (41 R124). -/
def execFmLowInvalid (b : Bit) (s : State) : Host.Outcome State Fault Refusal := takePair .low 0#1 b s

/-- FM_HIGH_INVALID: InvalidLinePair, LS unchanged (41 R124). -/
def execFmHighInvalid (b : Bit) (s : State) : Host.Outcome State Fault Refusal := takePair .high 1#1 b s

end Sys2Proof.Machine
end

