-- ==== Sys2Proof/Machine/InSym.lean ====
section
/-! DEFINITION. The meanings of the `in_sym` rows, the block's three input symbols (10_state R23). -/

namespace Sys2Proof.Machine

open Sys2Proof

/-- SAMPLE(b) (40 R100). -/
def execSample (b : Bit) (s : State) : Host.Outcome State Fault Refusal := takeSample b s

/-- EOS (40 R102). -/
def execEos (s : State) : Host.Outcome State Fault Refusal := takeEos s

/-- RESET (70 R250), accepted in every state (40 R103). -/
def execReset (s : State) : Host.Outcome State Fault Refusal := .next (resetRun s)

end Sys2Proof.Machine
end

