-- ==== Sys2Proof/Machine/Outputs.lean ====
section
/-! DEFINITION. The meanings of the `event` rows (30_encoding R78), each the emission of its event (00 R11), and of the
`tap_record` row, the Record Emitter's serialisation (60 R230); the codes of events and error kinds. -/

namespace Sys2Proof.Machine

open Sys2Proof

/-- EV_LBIT(p, d) (41 R123). -/
def execEvLbit (p : Nat) (d : Bit) (s : State) : Host.Outcome State Fault Refusal := output (.lbit p d) s

/-- EV_PAIR_ERR(k, a, b) (41 R124). -/
def execEvPairErr (k : Nat) (a b : Bit) (s : State) : Host.Outcome State Fault Refusal := output (.pairErr k a b) s

/-- EV_MARKER(p) (42 R141). -/
def execEvMarker (p : Nat) (s : State) : Host.Outcome State Fault Refusal := output (.marker p) s

/-- EV_FRAME_BYTE(p, v) (42 R145). -/
def execEvFrameByte (p : Nat) (v : Byte) (s : State) : Host.Outcome State Fault Refusal := output (.frameByte p v) s

/-- EV_FRAME_END(p) (42 R146). -/
def execEvFrameEnd (p : Nat) (s : State) : Host.Outcome State Fault Refusal := output (.frameEnd p) s

/-- EV_SYNC_VIOL(p, t) (42 R147). -/
def execEvSyncViol (p : Nat) (t0 t1 t2 : Bit) (s : State) : Host.Outcome State Fault Refusal :=
  output (.syncViol p t0 t1 t2) s

/-- EV_INCOMPLETE(f) (42 R150). -/
def execEvIncomplete (f : Nat) (s : State) : Host.Outcome State Fault Refusal := output (.incomplete f) s

/-- EV_RECORD(n) (42 R160). -/
def execEvRecord (n : Nat) (s : State) : Host.Outcome State Fault Refusal := output (.record n) s

/-- EV_DONE (40 R102). -/
def execEvDone (s : State) : Host.Outcome State Fault Refusal := output .done s

/-- TAP_RECORD (60 R230): a direct call of the emitter, which is outside the block and holds no state: its output grows by
the serialised Record, whatever the block's state (log entry 18) and whatever rec_cap is (30 R70 bounds n by rec_cap, R77 by
2^32 − 1: DESIGN CHOICE, log entry 20). -/
def execTapRecord (p : List Byte) (s : State) : Host.Outcome State Fault Refusal := .next (serialise p s)

/-- An event as the instruction that emits it. -/
def eventInstr : Event → Instr
  | .lbit p d => .evLbit p d
  | .pairErr k a b => .evPairErr k a b
  | .marker p => .evMarker p
  | .frameByte p v => .evFrameByte p v
  | .frameEnd p => .evFrameEnd p
  | .syncViol p t0 t1 t2 => .evSyncViol p t0 t1 t2
  | .incomplete f => .evIncomplete f
  | .record n => .evRecord n
  | .done => .evDone

/-- The event's code (30 R78). -/
def eventCode : Event → Byte
  | .lbit _ _ => 0x01#8
  | .pairErr _ _ _ => 0x02#8
  | .marker _ => 0x03#8
  | .frameByte _ _ => 0x04#8
  | .frameEnd _ => 0x05#8
  | .syncViol _ _ _ _ => 0x06#8
  | .incomplete _ => 0x07#8
  | .record _ => 0x08#8
  | .done => 0x09#8

/-- The document's error kinds (60 R200 to R203). -/
inductive ErrorKind where
  | invalidLinePair
  | incompleteFrame
  | syncViolation
  | emptyPayload
  deriving DecidableEq, Repr

/-- The error kind's code (60 R200 to R203). -/
def errorCode : ErrorKind → Nat
  | .invalidLinePair => 1
  | .incompleteFrame => 2
  | .syncViolation => 3
  | .emptyPayload => 4

/-- The error kind an event records (60 R200 to R202). EmptyPayload is recorded by no event (R203). -/
def eventError : Event → Option ErrorKind
  | .lbit _ _ => none
  | .pairErr _ _ _ => some .invalidLinePair
  | .marker _ => none
  | .frameByte _ _ => none
  | .frameEnd _ => none
  | .syncViol _ _ _ _ => some .syncViolation
  | .incomplete _ => some .incompleteFrame
  | .record _ => none
  | .done => none

/-- The condition EmptyPayload: a flush now would hand nothing on (60 R203). -/
def emptyPayload (s : State) : Bool := decide (s.rlen = 0)

end Sys2Proof.Machine
end

