-- ==== Sys2Proof/Machine/TextIn.lean ====
section
/-! DEFINITION. The meanings of the `text_in` rows: the Channel Bit Source's text filter (60 R220), and the filter on a
whole text. -/

namespace Sys2Proof.Machine

open Sys2Proof

/-- TEXT_0: the character '0' is SAMPLE(0) (60 R220). -/
def execText0 (s : State) : Host.Outcome State Fault Refusal := takeSample 0#1 s

/-- TEXT_1: the character '1' is SAMPLE(1) (60 R220). -/
def execText1 (s : State) : Host.Outcome State Fault Refusal := takeSample 1#1 s

/-- TEXT_OTHER: any other character is ignored and gives no symbol (60 R220). -/
def execTextOther (_c : Byte) (s : State) : Host.Outcome State Fault Refusal := .next s

/-- The channel samples of a text, in text order (60 R220). -/
def textSamples (t : List Byte) : List Bit :=
  t.filterMap (fun c => if c = 0x30#8 then some 0#1 else if c = 0x31#8 then some 1#1 else none)

/-- The words a text presents: its characters, then EOS at its end (60 R220). -/
def textWords (t : List Byte) : List FormatWord := t.map FormatWord.textIn ++ [encode .eos]

/-- The words a channel sequence presents: one SAMPLE each, then EOS (70 R255). -/
def channelWords (c : List Bit) : List FormatWord := c.map (fun b => encode (.sample b)) ++ [encode .eos]

end Sys2Proof.Machine
end

