-- ==== Sys2Proof/Machine/Dispatch.lean ====
section
/-! DEFINITION. One arm per row of the opcode table. -/

namespace Sys2Proof.Machine

open Sys2Proof

-- One direct call of the row's meaning each, in the order of the table.
def exec (i : Instr) (s : State) : Host.Outcome State Fault Refusal :=
  match i with
  | .sample b => Sys2Proof.Machine.execSample b s
  | .eos => Sys2Proof.Machine.execEos s
  | .reset => Sys2Proof.Machine.execReset s
  | .fmLow11 => Sys2Proof.Machine.execFmLow11 s
  | .fmLow10 => Sys2Proof.Machine.execFmLow10 s
  | .fmHigh00 => Sys2Proof.Machine.execFmHigh00 s
  | .fmHigh01 => Sys2Proof.Machine.execFmHigh01 s
  | .fmLowInvalid b => Sys2Proof.Machine.execFmLowInvalid b s
  | .fmHighInvalid b => Sys2Proof.Machine.execFmHighInvalid b s
  | .syncMarker first => Sys2Proof.Machine.execSyncMarker first s
  | .frameEnd q => Sys2Proof.Machine.execFrameEnd q s
  | .frameData v q => Sys2Proof.Machine.execFrameData v q s
  | .frameViolation w q => Sys2Proof.Machine.execFrameViolation w q s
  | .text0 => Sys2Proof.Machine.execText0 s
  | .text1 => Sys2Proof.Machine.execText1 s
  | .textOther c => Sys2Proof.Machine.execTextOther c s
  | .evLbit p d => Sys2Proof.Machine.execEvLbit p d s
  | .evPairErr k a b => Sys2Proof.Machine.execEvPairErr k a b s
  | .evMarker p => Sys2Proof.Machine.execEvMarker p s
  | .evFrameByte p v => Sys2Proof.Machine.execEvFrameByte p v s
  | .evFrameEnd p => Sys2Proof.Machine.execEvFrameEnd p s
  | .evSyncViol p t0 t1 t2 => Sys2Proof.Machine.execEvSyncViol p t0 t1 t2 s
  | .evIncomplete f => Sys2Proof.Machine.execEvIncomplete f s
  | .evRecord n => Sys2Proof.Machine.execEvRecord n s
  | .evDone => Sys2Proof.Machine.execEvDone s
  | .tapRecord payload => Sys2Proof.Machine.execTapRecord payload s

end Sys2Proof.Machine
end

