-- ==== Sys2Proof/Machine/Step.lean ====
section
/-! DEFINITION. One step: take the next word presented and run the instruction it decodes to. The step itself adds nothing
to the instruction but the removal of the word from the input. -/

namespace Sys2Proof.Machine

open Sys2Proof

/-- What a word that decodes to no instruction does. A wire word without a symbol is no step, and a window that is not the
SyncMarker changes nothing (30 R70, 42 R141): the state is held. Every other such word is refused by name. -/
def onNoInstr (e : DecodeError) (s : State) : Host.Outcome State Fault Refusal :=
  match e with
  | .noSymbol => .next s
  | .notMarker => .next s
  | .severalSymbols => .refused (.illegalWord .severalSymbols)
  | .unknownEvent => .refused (.illegalWord .unknownEvent)
  | .badEventFields => .refused (.illegalWord .badEventFields)
  | .badTapRecord => .refused (.illegalWord .badTapRecord)

/-- One step. Where nothing is presented the block holds all of its state (60 R216). -/
def step (s : State) : Host.Outcome State Fault Refusal :=
  match fetch s with
  | none => .next s
  | some (w, t) =>
    match decode w with
    | .ok i => exec i t
    | .error e => onNoInstr e t

/-- A table word placed where the step fetches next (log entry 4). -/
def State.withFetchWord (s : State) (nbits w : Nat) : State := placeWord (tableWord nbits w) s

end Sys2Proof.Machine
end

