-- ==== Sys2Proof/Machine/StatusView.lean ====
section
/-! DEFINITION. The host's side of the block (60 R234): the read-only status view (10_state R34), the refused write, and
the choice of the configuration inputs between runs (70 R255, R257). -/

namespace Sys2Proof.Machine

open Sys2Proof

/-- The 2-bit encoding of FSM (10 R28). -/
def fsmCode : Fsm → BitVec 2
  | .searching => 0b00#2
  | .inRecord => 0b01#2
  | .done => 0b10#2
  | .unused => 0b11#2

/-- The code of a fault reason (60 R206). -/
def reasonCode : FaultReason → Byte
  | .protocolViolation => 1#8
  | .recordOverflow => 2#8
  | .unreachable => 3#8

/-- The FAULT code shown in STATUS[23:16] (60 R207). -/
def faultCode : Option FaultReason → Byte
  | none => 0#8
  | some r => reasonCode r

/-- A counter as the status view shows it: full value, or the low CNT_W bits on a build of finite width (10 R34). -/
def showCounter (c : Cfg) (n : Nat) : Nat :=
  match c.cntW with
  | none => n
  | some w => n % 2 ^ w

/-- Register 0, CFG: init_line_state in bit 0, sink_attached in bit 1. -/
def cfgReg (s : State) : BitVec 32 :=
  0#30 ++ (BitVec.ofBool s.cfg.sinkAttached ++ lineLevel s.cfg.initLineState)

/-- Register 1, STATUS: from bit 31 down 0, FAULT, 0, FFILL, WIN, WFILL, HA, HV, LS, FSM. -/
def statusWord (s : State) : BitVec 32 :=
  0#8 ++ (faultCode s.fault ++ (0#2 ++ (s.ffill ++ (s.win ++ (s.wfill ++ (s.ha ++ (s.hv ++ (lineLevel s.ls ++ fsmCode s.fsm))))))))

/-- Register 2, FRAME: FRM in bits 10 to 0. -/
def frameReg (s : State) : BitVec 32 := 0#21 ++ s.frm

/-- The status view, registers 0 to 255 (10 R34); 12 to 255 are reserved and read as 0. -/
def statusReg (s : State) (r : Byte) : Nat :=
  match r.toNat with
  | 0 => (cfgReg s).toNat
  | 1 => (statusWord s).toNat
  | 2 => (frameReg s).toNat
  | 3 => showCounter s.cfg s.nCh
  | 4 => showCounter s.cfg s.nPair
  | 5 => showCounter s.cfg s.nErr
  | 6 => showCounter s.cfg s.nLb
  | 7 => showCounter s.cfg s.nMark
  | 8 => showCounter s.cfg s.nFrame
  | 9 => showCounter s.cfg s.nRec
  | 10 => s.rlen % 2 ^ 32
  | 11 => s.cfg.recCap % 2 ^ 32
  | _ => 0

/-- A host write to the status view: the block has no write port (10 R34, 93 U9). -/
def statusWrite (_r : Byte) (_v : Nat) (_s : State) : Host.Outcome State Fault Refusal := .refused .statusReadOnly

/-- No run is in progress: the run has ended (DONE), has faulted, or has taken no symbol since RESET. -/
def betweenRuns (s : State) : Bool :=
  decide (s.fsm = .done) || s.fault.isSome || decide (s.nCh = 0)

/-- The host sets the configuration inputs between runs (70 R255 step 1); a change mid-run is refused (70 R257). It takes
effect at the next RESET (20 R64): the host asserts RESET after it (70 R255 step 2), which is part of this move (log entry 17).
The whole Cfg is replaced, CNT_W included, which 10 R24 and 60 R234 do not list among the host's inputs and 00 R8 calls the
width of a build: DESIGN CHOICE, log entry 21. -/
def configure (c : Cfg) (s : State) : Host.Outcome State Fault Refusal :=
  if c.wf then
    if betweenRuns s then .next (resetRun { s with cfg := c }) else .refused .configurationInRun
  else .refused .configurationOutOfDomain

end Sys2Proof.Machine
end

