-- ==== Sys2Proof/Machine/Observation.lean ====
section
/-! DEFINITION. The step as the function of 40 R104, with its answers, and the observation of a run (40 R105): the Records,
the event trace read per kind, and the final status view. -/

namespace Sys2Proof.Machine

open Sys2Proof

/-- The trace a step appends its events to: a new run's for RESET (70 R250), else the run's so far (00 R11). -/
def traceStart (i : Instr) (s : State) : List Event := if i = .reset then [] else s.trace

/-- What the step function of 40 R104 answers. -/
inductive StepAnswer where
  /-- `Next(S', events)`. -/
  | next (s' : State) (evs : List Event)
  /-- `Fault(reason)`, with the state that holds FAULT and the events emitted before it. -/
  | fault (r : FaultReason) (s' : State)
  /-- No step: FAULT was set before (40 R104), or the model refuses the word. -/
  | noStep
  deriving DecidableEq, Repr

/-- `step(cfg, S, sym)` of 40 R104: the outcome of exec, a fault told from a normal answer by the FAULT register, with the
events of the step. -/
def answer (i : Instr) (s : State) : StepAnswer :=
  match exec i s with
  | .next t =>
    match t.fault with
    | none => .next t (t.trace.drop (traceStart i s).length)
    | some r => if s.fault = none then .fault r t else .noStep
  | .fault _ => .noStep
  | .refused _ => .noStep

/-- The kinds of event: one for each code of 30 R78. Which events share a kind is DEDUCED (log entry 14). -/
inductive EventKind where
  | lbit
  | pairErr
  | marker
  | frameByte
  | frameEnd
  | syncViol
  | incomplete
  | record
  | done
  deriving DecidableEq, Repr

/-- All kinds, in the order of their codes. -/
def eventKinds : List EventKind :=
  [.lbit, .pairErr, .marker, .frameByte, .frameEnd, .syncViol, .incomplete, .record, .done]

/-- The kind of an event (30 R78). -/
def eventKind : Event → EventKind
  | .lbit _ _ => .lbit
  | .pairErr _ _ _ => .pairErr
  | .marker _ => .marker
  | .frameByte _ _ => .frameByte
  | .frameEnd _ => .frameEnd
  | .syncViol _ _ _ _ => .syncViol
  | .incomplete _ => .incomplete
  | .record _ => .record
  | .done => .done

/-- The events of one kind, in their order (20 R63). -/
def eventsOfKind (k : EventKind) (t : List Event) : List Event := t.filter (fun e => decide (eventKind e = k))

/-- The trace read per kind: the events of each kind in their order, and nothing of the order between kinds (20 R63, 92 D12). -/
def perKind (t : List Event) : List (List Event) := eventKinds.map (fun k => eventsOfKind k t)

/-- The observation of a run (40 R105). -/
structure Observation where
  records : List Record
  events : List (List Event)
  status : List Nat
  deriving DecidableEq, Repr

/-- What is observed of a state in which a run has ended: the Records at the sink port, the trace per kind, the status
view's registers 0 to 11. -/
def observe (s : State) : Observation :=
  { records := s.sink
    events := perKind s.trace
    status := (List.range 12).map (fun r => statusReg s (BitVec.ofNat 8 r)) }

end Sys2Proof.Machine
end

