-- ==== Sys2Proof/Machine/Reference.lean ====
section
/-! DEFINITION. The document's whole-sequence reference semantics, transcribed: the batch decoder and classifier
(40 R106, 42 R165) and the encoder inverse (41 R130). The block contains none of these; laws relate it to them
(40 R107, 41 R131, 42 R166). -/

namespace Sys2Proof.Machine

open Sys2Proof

/-- The new line level of the encoder: b = s XOR d (41 R130). -/
def fmNext (s : LineState) (d : Bit) : LineState := lineOfLevel (lineLevel s ^^^ d)

/-- `FM(s, L)`: the channel samples that encode L from line state s (41 R130). -/
def fmEncode : LineState → List Bit → List Bit
  | _, [] => []
  | s, d :: ds =>
    let a := ~~~(lineLevel s)
    let b := if d = 1#1 then a else ~~~a
    a :: b :: fmEncode (lineOfLevel b) ds

/-- The result of `decode_seq` (40 R106): the LogicalBits, the final LineState, and the invalid pairs. -/
structure Decoded where
  bits : List Bit
  line : LineState
  errs : List (Nat × Bit × Bit)
  deriving DecidableEq, Repr

/-- `decode_seq` from pair index k and line state s (40 R106); a trailing odd sample is discarded. -/
def decodeFrom (k : Nat) (s : LineState) : List Bit → Decoded
  | a :: b :: rest =>
    match decodePair a b s with
    | (none, s') =>
      let r := decodeFrom (k + 1) s' rest
      { r with errs := (k, a, b) :: r.errs }
    | (some d, s') =>
      let r := decodeFrom (k + 1) s' rest
      { r with bits := d :: r.bits }
  | _ => { bits := [], line := s, errs := [] }

/-- `decode_seq(C, s0)` (40 R106). -/
def decodeSeq (c : List Bit) (s : LineState) : Decoded := decodeFrom 0 s c

/-- The sum Σ F[j]·2^j over the data bits of a Frame (42 R165, 30 R76). -/
def bitsValue : List Bit → Nat
  | [] => 0
  | d :: ds => d.toNat + 2 * bitsValue ds

/-- A Record handed on by the reference's flush, if it is not empty (42 R165). -/
def refFlushOut (rec : Record) : List Record := if rec.length = 0 then [] else [rec]

/-- The event of the reference's flush (42 R165). -/
def refFlushEvents (rec : Record) : List Event := if rec.length = 0 then [] else [.record rec.length]

/-- The Records and events of the document's cursor scan (42 R165). -/
structure Scanned where
  out : List Record
  events : List Event
  deriving DecidableEq, Repr

/-- What stands before the result of the rest of the scan. -/
def Scanned.after (r : Scanned) (out : List Record) (events : List Event) : Scanned :=
  { out := out ++ r.out, events := events ++ r.events }

/-- The cursor scan of `classify_seq` (42 R165): in SEARCHING or in a record, at index i, with the open Record `rec` and
the LogicalBits L[i..] left. Each turn of the loop takes at least one bit, so `fuel` = |L| + 1 is enough. -/
def scanFrom : Nat → Bool → Nat → Record → List Bit → Scanned
  | 0, _, _, _, _ => { out := [], events := [] }
  | fuel + 1, false, i, rec, l =>
    if l.length < Config.markerW then { out := [], events := [] }
    else if l.take Config.markerW = Config.markerBits then
      (scanFrom fuel true (i + Config.markerW) [] (l.drop Config.markerW)).after [] [.marker i]
    else scanFrom fuel false (i + 1) rec (l.drop 1)
  | fuel + 1, true, i, rec, l =>
    if l.length < Config.frameW then
      { out := refFlushOut rec, events := .incomplete l.length :: refFlushEvents rec }
    else if l.take Config.frameW = List.replicate Config.frameW 1#1 then
      (scanFrom fuel false (i + Config.frameW) [] (l.drop Config.frameW)).after (refFlushOut rec)
        (.frameEnd i :: refFlushEvents rec)
    else if (l.drop Config.dataW).take Config.trailerW = Config.markerBits then
      (scanFrom fuel true (i + Config.frameW) (rec ++ [BitVec.ofNat 8 (bitsValue (l.take Config.dataW))])
        (l.drop Config.frameW)).after [] [.frameByte i (BitVec.ofNat 8 (bitsValue (l.take Config.dataW)))]
    else
      (scanFrom fuel false (i + Config.frameW) [] (l.drop Config.frameW)).after (refFlushOut rec)
        (.syncViol i (l.getD 8 0#1) (l.getD 9 0#1) (l.getD 10 0#1) :: refFlushEvents rec)

/-- `classify_seq(L)` (42 R165). -/
def classifySeq (l : List Bit) : Scanned := scanFrom (l.length + 1) false 0 [] l

/-- `run_seq(C)` from a starting line state (40 R106). -/
def runSeq (c : List Bit) (s : LineState) : Scanned := classifySeq (decodeSeq c s).bits

/-- An event of the line decoder (20 R63). -/
def isDecoderEvent : Event → Bool
  | .lbit _ _ => true
  | .pairErr _ _ _ => true
  | .marker _ => false
  | .frameByte _ _ => false
  | .frameEnd _ => false
  | .syncViol _ _ _ _ => false
  | .incomplete _ => false
  | .record _ => false
  | .done => false

/-- The line decoder's events of a trace, in order (20 R63). -/
def decoderEvents (t : List Event) : List Event := t.filter isDecoderEvent

/-- The classifier's events of a trace, in order, DONE left out (20 R63, 42 R165). -/
def classifierEvents (t : List Event) : List Event := t.filter (fun e => !isDecoderEvent e && decide (e ≠ .done))

/-- The LogicalBits of a trace, in order: the bits of its LBIT events (30 R78). -/
def traceBits (t : List Event) : List Bit :=
  t.filterMap (fun e => match e with
    | .lbit _ d => some d
    | _ => none)

/-- The invalid pairs of a trace, in order: the fields of its PAIR_ERR events (30 R78). -/
def traceErrs (t : List Event) : List (Nat × Bit × Bit) :=
  t.filterMap (fun e => match e with
    | .pairErr k a b => some (k, a, b)
    | _ => none)

end Sys2Proof.Machine
end

