-- ==== Sys2Proof/Safety.lean ====
section
/-! DEFINITION. What counts as a normal step, a run and its normal end (40 R104, R105), in the terms the
claims use; and the invariants of the model. -/

namespace Sys2Proof

open Sys2Proof.Machine

/-- The relation `Step cfg S sym S' evs` of 40 R104: it holds exactly when the step function answers `Next(S', evs)`. -/
def NormalStep (i : Instr) (s s' : State) (evs : List Event) : Prop := answer i s = .next s' evs

/-- An instruction the host may present at the block's port, or a character of the text source (10 R23, 60 R220). -/
def hostMove : Instr → Bool
  | .sample _ => true
  | .eos => true
  | .reset => true
  | .fmLow11 => false
  | .fmLow10 => false
  | .fmHigh00 => false
  | .fmHigh01 => false
  | .fmLowInvalid _ => false
  | .fmHighInvalid _ => false
  | .syncMarker _ => false
  | .frameEnd _ => false
  | .frameData _ _ => false
  | .frameViolation _ _ => false
  | .text0 => true
  | .text1 => true
  | .textOther _ => true
  | .evLbit _ _ => false
  | .evPairErr _ _ _ => false
  | .evMarker _ => false
  | .evFrameByte _ _ => false
  | .evFrameEnd _ => false
  | .evSyncViol _ _ _ _ => false
  | .evIncomplete _ => false
  | .evRecord _ => false
  | .evDone => false
  | .tapRecord _ => false

/-- The instructions of a list, one after the other; the first that does not answer a next state ends it. -/
def feed : List Instr → State → Host.Outcome State Fault Refusal
  | [], s => .next s
  | i :: is, s =>
    match exec i s with
    | .next s' => feed is s'
    | .fault r => .fault r
    | .refused r => .refused r

/-- The symbols of a channel sequence: one SAMPLE each, then EOS (70 R255). -/
def channelSymbols (c : List Bit) : List Instr := c.map Instr.sample ++ [.eos]

/-- A run has ended normally: FSM = DONE with FAULT = none (40 R105). -/
def NormalEnd (s : State) : Prop := s.fsm = .done ∧ s.fault = none

/-- The observation of the run that a list of symbols makes from RESET under a configuration; none where the run has no normal
end (40 R105). -/
def observedRun (c : Cfg) (is : List Instr) : Option Observation :=
  match feed is (State.resetWith c []) with
  | .next t => if t.fsm = .done ∧ t.fault = none then some (observe t) else none
  | .fault _ => none
  | .refused _ => none

/-- The register clauses of 10 R35, which every operation of the model keeps. -/
abbrev RegsOk (s : State) : Prop := regsOk s = true

/-- The whole invariant of 10 R35. -/
abbrev Reachable (s : State) : Prop := reachable s = true

/-- The bits of the windows above their fill are 0 (10 R29, R30). -/
def WindowsClean (s : State) : Prop :=
  s.win.toNat < 2 ^ s.wfill.toNat ∧ s.frm.toNat < 2 ^ s.ffill.toNat

/-- The fills never exceed the LogicalBits produced so far, so that the positions p − 2 and p − 10 of a marker and of a Frame
are exact (10 R29, R30, R33). -/
def PositionsOk (s : State) : Prop := s.wfill.toNat ≤ s.nLb ∧ s.ffill.toNat ≤ s.nLb

/-- A MARKER event. -/
def isMarkerEvent : Event → Bool
  | .marker _ => true
  | _ => false

/-- An event that reports a classified Frame (30 R78). -/
def isFrameEvent : Event → Bool
  | .frameByte _ _ => true
  | .frameEnd _ => true
  | .syncViol _ _ _ _ => true
  | _ => false

/-- A RECORD event. -/
def isRecordEvent : Event → Bool
  | .record _ => true
  | _ => false

/-- The counters count their events in the trace (10 R32, 30 R78). -/
def CountersMatchTrace (s : State) : Prop :=
  s.nLb = (traceBits s.trace).length ∧ s.nErr = (traceErrs s.trace).length ∧
    s.nMark = s.trace.countP isMarkerEvent ∧ s.nFrame = s.trace.countP isFrameEvent ∧
      s.nRec = s.trace.countP isRecordEvent ∧ s.nRec = s.sink.length

/-- Only the host presents words: every word of the input is a wire word or a character (10 R23, 60 R220). -/
def HostFed (s : State) : Prop := ∀ w ∈ s.input, w.format = .inSym ∨ w.format = .textIn

/-- Every Record at the sink has at most rec_cap bytes (30 R70, R80). -/
def RecordsFit (s : State) : Prop := ∀ r ∈ s.sink, r.length ≤ s.cfg.recCap

/-- The parity law (41 R132): LS is the initial LineState, changed by each LogicalBit equal to 1. -/
def ParityLaw (s : State) : Prop := s.ls = (traceBits s.trace).foldl fmNext s.cfg.initLineState

/-- No empty Record was handed to the sink, and the TAP stream is what the emitter makes of the Records (60 R231, 20 R54). -/
def SinkSound (s : State) : Prop := (∀ r ∈ s.sink, r.length ≠ 0) ∧ s.tap = tapStream s.sink

end Sys2Proof
end

