-- ==== Sys2Proof/Certificates/Slice0/Obligations.lean ====
section
/-! DEFINITION. The statements for the provers, each an obligation from the spec's numbered rules; the docstring names the
rule, and the log entry where a clause is the model's own choice. -/

open Sys2Proof Sys2Proof.Machine

/-- The bit an instruction presents to the block: SAMPLE(b), and the characters '0' and '1' (40 R100, 60 R220). -/
def Sys2Proof.Claims.sampleOf : Instr → Option Bit
  | .sample b => some b
  | .text0 => some 0#1
  | .text1 => some 1#1
  | _ => none

/-- The fm_pair row of a valid pair: from line state l it yields LogicalBit d (30 R71). -/
def Sys2Proof.Claims.validRow : LineState → Bit → Instr
  | .low, d => if d = 1#1 then .fmLow11 else .fmLow10
  | .high, d => if d = 1#1 then .fmHigh00 else .fmHigh01

/-- The fm_pair row of an invalid pair: from line state l with later sample b (30 R71). -/
def Sys2Proof.Claims.invalidRow : LineState → Bit → Instr
  | .low, b => .fmLowInvalid b
  | .high, b => .fmHighInvalid b

/-- A complete Frame word's row is run on a Record that is handed on if not empty: what FLUSH leaves of the state
(42 R160), with the search started again (42 R146, R147). That the emitter's bytes join `tap` in the same step is the
model's choice (log entry 10). -/
def Sys2Proof.Claims.closed (s : State) : State :=
  { s with
    trace := s.trace ++ (if s.rcd = [] then [] else [Event.record s.rcd.length])
    nRec := s.nRec + (if s.rcd = [] then 0 else 1)
    sink := s.sink ++ (if s.rcd = [] then [] else [s.rcd])
    tap := s.tap ++ (if s.rcd = [] then [] else le32 s.rcd.length ++ s.rcd ++ le32 s.rcd.length)
    rcd := [] }

/-- An operation the block takes only while FAULT = none: every row but RESET and the two rows that act outside the block
(40 R104; 60 R220, R230). -/
def Sys2Proof.Claims.needsNoFault : Instr → Bool
  | .reset => false
  | .textOther _ => false
  | .tapRecord _ => false
  | _ => true

open Sys2Proof.Claims

/-! ### The input symbols and the characters -/

/-- 40 R100, 41 R120: the first sample of a pair is only latched and counted. -/
def Obligations.SampleLatchesFirstOfPair : Prop :=
  ∀ (i : Instr) (b : Bit) (s : State), sampleOf i = some b → s.fault = none → Reachable s → s.fsm ≠ .done → s.hv = 0#1 →
    exec i s = .next { s with nCh := s.nCh + 1, hv := 1#1, ha := b }

/-- 41 R120, R121, R124: the second sample of an invalid pair. -/
def Obligations.SampleCompletingInvalidPairIsSkipped : Prop :=
  ∀ (i : Instr) (b : Bit) (s : State), sampleOf i = some b → s.fault = none → Reachable s → s.fsm ≠ .done → s.hv = 1#1 →
    s.ha = lineLevel s.ls →
    exec i s = .next { s with
      nCh := s.nCh + 1, hv := 0#1, ha := 0#1, nPair := s.nPair + 1, nErr := s.nErr + 1
      trace := s.trace ++ [.pairErr s.nPair s.ha b] }

/-- 41 R120, R121, R123: the second sample of a valid pair yields LogicalBit 1 if the two samples agree and 0 if not, LS
becomes the level of the second sample, and the classifier takes the bit in the same step. -/
def Obligations.SampleCompletingValidPairYieldsBit : Prop :=
  ∀ (i : Instr) (b : Bit) (s : State), sampleOf i = some b → s.fault = none → Reachable s → s.fsm ≠ .done → s.hv = 1#1 →
    s.ha ≠ lineLevel s.ls →
    exec i s = .next (classifyBit (if b = s.ha then 1#1 else 0#1) s.nLb { s with
      nCh := s.nCh + 1, hv := 0#1, ha := 0#1, nPair := s.nPair + 1, nLb := s.nLb + 1, ls := lineOfLevel b
      trace := s.trace ++ [.lbit s.nLb (if b = s.ha then 1#1 else 0#1)] })

/-- 40 R100, 41 R120, R121, 30 R71: the second sample of a pair runs the fm_pair row of the word s, a, b. -/
def Obligations.SampleRunsThePairRowOfItsWord : Prop :=
  ∀ (i : Instr) (b : Bit) (s : State), sampleOf i = some b → s.fault = none → Reachable s → s.fsm ≠ .done → s.hv = 1#1 →
    exec i s = exec (decodeFmPair (pairWord (lineLevel s.ls) s.ha b))
      { s with nCh := s.nCh + 1, hv := 0#1, ha := 0#1 }

/-- 40 R102 with 42 R142, R150, R160: EOS in SEARCHING and in IN_RECORD. In IN_RECORD it emits INCOMPLETE with
the fill, flushes, and discards the partial Frame; an odd sample held is discarded and stays counted. That the TAP bytes are written in the same step is log entry 10. -/
def Obligations.EosEndsTheRun : Prop :=
  ∀ s : State, s.fault = none → Reachable s →
    (s.fsm = .searching → exec .eos s = .next { s with
      hv := 0#1, ha := 0#1, win := 0#3, wfill := 0#2, frm := 0#11, ffill := 0#4, fsm := .done
      trace := s.trace ++ [.done] }) ∧
    (s.fsm = .inRecord → exec .eos s = .next { s with
      hv := 0#1, ha := 0#1, win := 0#3, wfill := 0#2, frm := 0#11, ffill := 0#4, fsm := .done, rcd := []
      trace := s.trace ++ (.incomplete s.ffill.toNat :: (if s.rcd = [] then [] else [.record s.rcd.length])) ++ [.done]
      nRec := s.nRec + (if s.rcd = [] then 0 else 1)
      sink := s.sink ++ (if s.rcd = [] then [] else [s.rcd])
      tap := s.tap ++ (if s.rcd = [] then [] else le32 s.rcd.length ++ s.rcd ++ le32 s.rcd.length) })

/-- 70 R250, 40 R103, 10 R36: RESET in every state, faulted and DONE included: every register at its value, the trace empty,
the configuration unchanged. -/
def Obligations.ResetStartsANewRun : Prop :=
  ∀ s : State, ∃ t, exec .reset s = .next t ∧
    t.ls = s.cfg.initLineState ∧ t.hv = 0#1 ∧ t.ha = 0#1 ∧ t.fsm = .searching ∧ t.win = 0#3 ∧ t.wfill = 0#2 ∧
    t.frm = 0#11 ∧ t.ffill = 0#4 ∧ t.rcd = [] ∧ t.nCh = 0 ∧ t.nPair = 0 ∧ t.nErr = 0 ∧ t.nLb = 0 ∧ t.nMark = 0 ∧
    t.nFrame = 0 ∧ t.nRec = 0 ∧ t.fault = none ∧ t.trace = [] ∧ t.cfg = s.cfg

/-- The model's choice (log entries 1 and 10): RESET starts the record of the outputs anew, and leaves the words still to be
presented. -/
def Obligations.ResetRestartsTheOutputRecord : Prop :=
  ∀ s : State, ∃ t, exec .reset s = .next t ∧ t.sink = [] ∧ t.tap = [] ∧ t.input = s.input

/-- 60 R220: a character other than '0' and '1' is ignored, in every state. -/
def Obligations.OtherCharactersAreIgnored : Prop :=
  ∀ (c : Byte) (s : State), exec (.textOther c) s = .next s

/-! ### The line decoder's rows -/

/-- 41 R123: a valid pair row, in every state of the classifier but DONE. -/
def Obligations.ValidPairRowYieldsItsBit : Prop :=
  ∀ (l : LineState) (d : Bit) (s : State), s.fault = none → RegsOk s → s.fsm ≠ .done → s.ls = l →
    exec (validRow l d) s = .next (classifyBit d s.nLb { s with
      nPair := s.nPair + 1, nLb := s.nLb + 1, ls := fmNext l d, trace := s.trace ++ [.lbit s.nLb d] })

/-- 41 R124: an invalid pair row: N_ERR and N_PAIR, one PAIR_ERR, and nothing else; LS is unchanged. -/
def Obligations.InvalidPairRowChangesOnlyItsCounters : Prop :=
  ∀ (l : LineState) (b : Bit) (s : State), s.fault = none → RegsOk s → s.fsm ≠ .done → s.ls = l →
    exec (invalidRow l b) s = .next { s with
      nPair := s.nPair + 1, nErr := s.nErr + 1, trace := s.trace ++ [.pairErr s.nPair (lineLevel l) b] }

/-- 42 R141: a LogicalBit in SEARCHING slides the window, and a window that reads 010 with fill 3 opens a Record. -/
def Obligations.BitWhileSearchingScansForTheMarker : Prop :=
  ∀ (l : LineState) (d : Bit) (s : State), s.fault = none → RegsOk s → PositionsOk s → s.fsm = .searching → s.ls = l →
    exec (validRow l d) s = .next
      (if fillPush s.wfill = 3#2 ∧ windowPush s.win d = 0b010#3 then { s with
        nPair := s.nPair + 1, nLb := s.nLb + 1, ls := fmNext l d
        trace := s.trace ++ [.lbit s.nLb d, .marker (s.nLb - 2)]
        nMark := s.nMark + 1, win := 0#3, wfill := 0#2, frm := 0#11, ffill := 0#4, rcd := [], fsm := .inRecord }
      else { s with
        nPair := s.nPair + 1, nLb := s.nLb + 1, ls := fmNext l d, trace := s.trace ++ [.lbit s.nLb d]
        win := windowPush s.win d, wfill := fillPush s.wfill })

/-- 42 R143: a LogicalBit in IN_RECORD is stored at FRM[FFILL]; the 11th bit completes the Frame, which is consumed and
classified in the same step as the frame row its word decodes to, at the index of its first bit. -/
def Obligations.BitInRecordFillsTheFrame : Prop :=
  ∀ (l : LineState) (d : Bit) (s : State), s.fault = none → RegsOk s → PositionsOk s → s.fsm = .inRecord → s.ls = l →
    (s.ffill.toNat < 10 → exec (validRow l d) s = .next { s with
      nPair := s.nPair + 1, nLb := s.nLb + 1, ls := fmNext l d, trace := s.trace ++ [.lbit s.nLb d]
      frm := frameSet s.frm s.ffill.toNat d, ffill := s.ffill + 1#4 }) ∧
    (s.ffill = 10#4 → exec (validRow l d) s = exec (decodeFrame (frameSet s.frm 10 d) (s.nLb - 10)) { s with
      nPair := s.nPair + 1, nLb := s.nLb + 1, ls := fmNext l d, trace := s.trace ++ [.lbit s.nLb d]
      frm := 0#11, ffill := 0#4 })

/-- 42 R143, 30 R74: writing FRM[i] sets that bit and keeps the others. -/
def Obligations.FrameBitWriteSetsOneBit : Prop :=
  ∀ (w : FrameWord) (i j : Nat) (d : Bit), i < 11 → j < 11 →
    frameBit (frameSet w i d) j = (if j = i then d else frameBit w j)

/-! ### The classifier's rows -/

/-- 42 R141, 30 R73, in the model's reading of the row as an operation of its own (log entry 2): the marker row acts when WFILL = 3, WIN = 010 and FSM = SEARCHING, and changes nothing otherwise. -/
def Obligations.MarkerRowOpensARecord : Prop :=
  ∀ (first : Nat) (s : State), s.fault = none → RegsOk s →
    exec (.syncMarker first) s = .next
      (if s.fsm = .searching ∧ s.wfill = 3#2 ∧ s.win = 0b010#3 then { s with
        nMark := s.nMark + 1, trace := s.trace ++ [.marker first], win := 0#3, wfill := 0#2, frm := 0#11, ffill := 0#4
        rcd := [], fsm := .inRecord }
      else s)

/-- 42 R146, R160: the END row emits FRAME_END, hands a non-empty Record on, clears it and starts the search again. The row
as an operation of its own, with the Frame counted and consumed (R143, R144), is log entry 2; the TAP bytes in the same step
are log entry 10. -/
def Obligations.EndFrameFlushesAndSearches : Prop :=
  ∀ (q : Nat) (s : State), s.fault = none → RegsOk s → s.fsm = .inRecord →
    exec (.frameEnd q) s = .next { closed { s with nFrame := s.nFrame + 1, trace := s.trace ++ [.frameEnd q] } with
      fsm := .searching, win := 0#3, wfill := 0#2, frm := 0#11, ffill := 0#4 }

/-- 42 R147, R160: the VIOLATION row reports the trailer, appends nothing, and closes the Record like the END row
(log entries 2 and 10 as there). -/
def Obligations.ViolationFrameFlushesAndSearches : Prop :=
  ∀ (w : FrameWord) (q : Nat) (s : State), frameClass w = .violation → s.fault = none → RegsOk s → s.fsm = .inRecord →
    exec (.frameViolation w q) s = .next { closed { s with
        nFrame := s.nFrame + 1, trace := s.trace ++ [.syncViol q (frameBit w 8) (frameBit w 9) (frameBit w 10)] } with
      fsm := .searching, win := 0#3, wfill := 0#2, frm := 0#11, ffill := 0#4 }

/-- 42 R145, 20 R52, 42 R151: the DATA row emits FRAME_BYTE and, with a sink and room in the Record, appends the byte; without
a sink it appends nothing; FSM stays IN_RECORD. The row as an operation of its own, with the Frame counted and consumed
(R143, R144), is log entry 2. -/
def Obligations.DataFrameAppendsItsByte : Prop :=
  ∀ (v : Byte) (q : Nat) (s : State), s.fault = none → RegsOk s → s.fsm = .inRecord →
    (s.cfg.sinkAttached = false → exec (.frameData v q) s = .next { s with
      nFrame := s.nFrame + 1, trace := s.trace ++ [.frameByte q v], frm := 0#11, ffill := 0#4 }) ∧
    (s.cfg.sinkAttached = true → s.rcd.length < s.cfg.recCap → exec (.frameData v q) s = .next { s with
      nFrame := s.nFrame + 1, trace := s.trace ++ [.frameByte q v], frm := 0#11, ffill := 0#4, rcd := s.rcd ++ [v] })

/-- 42 R161: a second flush finds RLEN = 0 and does nothing. -/
def Obligations.FlushTwiceIsFlushOnce : Prop := ∀ s : State, (flush s).rcd = [] ∧ flush (flush s) = flush s

/-! ### The outputs' rows -/

/-- 30 R78, 00 R11: each event row appends its event to the trace and changes nothing else (the row as an operation of its
own: log entry 2). -/
def Obligations.EventRowsOnlyEmit : Prop :=
  ∀ (e : Event) (s : State), s.fault = none → exec (eventInstr e) s = .next { s with trace := s.trace ++ [e] }

/-- 60 R230, 30 R77: the emitter writes length, payload and length again, and nothing for an empty Record; nothing else
changes (the direct call is log entry 18). -/
def Obligations.TapRowSerialisesTheRecord : Prop :=
  ∀ (p : List Byte) (s : State),
    (p ≠ [] → exec (.tapRecord p) s = .next { s with tap := s.tap ++ (le32 p.length ++ p ++ le32 p.length) }) ∧
    (p = [] → exec (.tapRecord p) s = .next s)

/-- 60 R231, 20 R57: the two length fields of a serialised Record are the first and the last four bytes, and both stand for
its byte count. -/
def Obligations.TapLengthFieldsGiveTheByteCount : Prop :=
  ∀ (r : Record) (bytes : List Byte), r.length ≤ Config.maxRecCap → emitRecord r = some bytes →
    ∃ b0 b1 b2 b3, bytes.take 4 = [b0, b1, b2, b3] ∧ bytes.drop (4 + r.length) = [b0, b1, b2, b3] ∧
      ofLe32 b0 b1 b2 b3 = r.length

/-! ### Faults and refusals -/

/-- 20 R52, 42 R145, 60 R206: a data byte for a full Record raises RecordOverflow, the Record is left as it was and the
FRAME_BYTE event is kept. That the raise is a next state with FAULT set is log entry 5; the row as an operation of its own,
with the Frame counted and consumed (R143, R144), is log entry 2. -/
def Obligations.FullRecordRaisesOverflow : Prop :=
  ∀ (v : Byte) (q : Nat) (s : State), s.fault = none → RegsOk s → s.fsm = .inRecord →
    s.cfg.sinkAttached = true → s.rcd.length = s.cfg.recCap → exec (.frameData v q) s = .next { s with
      nFrame := s.nFrame + 1, trace := s.trace ++ [.frameByte q v], frm := 0#11, ffill := 0#4
      fault := some .recordOverflow }

/-- 60 R206, 40 R100, R102: a sample or EOS after the end of the run raises ProtocolViolation, and nothing else changes (log
entry 5); a whole pair presented then does the same (log entry 2). -/
def Obligations.InputAfterTheEndIsAProtocolViolation : Prop :=
  ∀ (i : Instr) (s : State), s.fault = none → s.fsm = .done →
    (((sampleOf i).isSome ∨ i = .eos) → Reachable s → exec i s = .next { s with fault := some .protocolViolation }) ∧
    (∀ l d, (i = validRow l d ∨ i = invalidRow l d) → RegsOk s →
      exec i s = .next { s with fault := some .protocolViolation })

/-- 40 R104, 60 R206: while FAULT is set no operation of the block takes a step; the stop's name is the model's (log
entry 5). -/
def Obligations.FaultedBlockTakesNoStep : Prop :=
  ∀ (i : Instr) (r : FaultReason) (s : State), needsNoFault i = true → s.fault = some r → exec i s = .fault (.stuck r)

/-- 30 R79, 60 R206, in the reading of log entry 6: SAMPLE and EOS in a state outside 10 R35, and an operation inside a step
in a state whose registers are outside it, raise Unreachable. -/
def Obligations.StatesOutsideTheInvariantFault : Prop :=
  ∀ (i : Instr) (s : State), s.fault = none →
    (((sampleOf i).isSome ∨ i = .eos) → ¬ Reachable s → exec i s = .next { s with fault := some .unreachable }) ∧
    ((i.format = .fmPair ∨ i.format = .syncMarker ∨ i.format = .frame) → ¬ RegsOk s →
      exec i s = .next { s with fault := some .unreachable })

/-- 42 R140, 30 R71: the model's refusals inside a step (log entry 2): a pair word whose s is not LS, and a Frame word
outside IN_RECORD. -/
def Obligations.WordsOfAnotherStateAreRefused : Prop :=
  ∀ (l : LineState) (d : Bit) (v : Byte) (w : FrameWord) (q : Nat) (s : State), s.fault = none → RegsOk s →
    (s.fsm ≠ .done → s.ls ≠ l → exec (validRow l d) s = .refused .lineStateDiffers ∧
      exec (invalidRow l d) s = .refused .lineStateDiffers) ∧
    (s.fsm ≠ .inRecord → exec (.frameEnd q) s = .refused .frameOutsideRecord ∧
      exec (.frameData v q) s = .refused .frameOutsideRecord ∧
      exec (.frameViolation w q) s = .refused .frameOutsideRecord)

/-- 60 R204, in a sufficient form: no channel sequence that is not longer than rec_cap (or, without a sink, of any length),
however corrupt, faults: it runs to DONE. A Record has fewer bytes than the sequence has samples. -/
def Obligations.MalformedInputNeverFaults : Prop :=
  ∀ (c : Cfg) (ws : List FormatWord) (ch : List Bit), c.wf = true → (c.sinkAttached = false ∨ ch.length ≤ c.recCap) →
    ∃ t, feed (channelSymbols ch) (State.resetWith c ws) = .next t ∧ NormalEnd t

/-! ### Frames over all instructions -/

/-- 70 R250, R257, 10 R22: no instruction changes the configuration inputs, and none touches the words still to be
presented (the model's field, log entry 1). -/
def Obligations.NoInstructionChangesTheConfiguration : Prop :=
  ∀ (i : Instr) (s t : State), exec i s = .next t → t.cfg = s.cfg ∧ t.input = s.input

/-- 10 R26, 41 R126: LS is written only by a valid pair, which takes one LogicalBit, and by RESET. -/
def Obligations.OnlyValidPairsWriteLineState : Prop :=
  ∀ (i : Instr) (s t : State), exec i s = .next t → i ≠ .reset →
    t.ls = s.ls ∨ (∃ d, t.ls = fmNext s.ls d ∧ t.nLb = s.nLb + 1 ∧ Event.lbit s.nLb d ∈ t.trace)

/-- 60 R206, 20 R54: but for RESET, what was emitted, delivered or serialised stays. -/
def Obligations.OutputsOnlyGrow : Prop :=
  ∀ (i : Instr) (s t : State), exec i s = .next t → i ≠ .reset →
    s.trace <+: t.trace ∧ s.sink <+: t.sink ∧ s.tap <+: t.tap

/-- 10 R32, R33: but for RESET, no counter moves back, and none moves by more than 1 in a step. -/
def Obligations.CountersAdvanceByAtMostOne : Prop :=
  ∀ (i : Instr) (s t : State), exec i s = .next t → i ≠ .reset →
    (t.nCh = s.nCh ∨ t.nCh = s.nCh + 1) ∧ (t.nPair = s.nPair ∨ t.nPair = s.nPair + 1) ∧
    (t.nErr = s.nErr ∨ t.nErr = s.nErr + 1) ∧ (t.nLb = s.nLb ∨ t.nLb = s.nLb + 1) ∧
    (t.nMark = s.nMark ∨ t.nMark = s.nMark + 1) ∧ (t.nFrame = s.nFrame ∨ t.nFrame = s.nFrame + 1) ∧
    (t.nRec = s.nRec ∨ t.nRec = s.nRec + 1)

/-! ### Decoding and the step -/

/-- 30_encoding, opcode_table.json: decoding an encoded well-formed instruction gives it back, for every row and every
operand value. -/
def Obligations.DecodeOfEncodeIsTheInstruction : Prop :=
  ∀ i : Instr, i.WellFormed → decode (encode i) = .ok i

/-- 30_encoding: what the decoder accepts is well-formed, and encodes to the word it was read from, but for the bit 0 that
EOS and RESET ignore. -/
def Obligations.DecodedWordsEncodeBack : Prop :=
  ∀ (w : FormatWord) (i : Instr), decode w = .ok i →
    i.WellFormed ∧ (w.format ≠ .inSym → encode i = w)

/-- 30 R70 to R78, 60 R220: words written out from the tables decode to their rows: every code of the events and both
characters among them. The model's choices in them: an event as its code and a list of naturals (log entry 11), the
characters as bytes (log entry 12), an index beside a window or a Frame word (log entry 7). -/
def Obligations.TableWordsDecodeToTheirRows : Prop :=
  decode (.inSym 0b0011#4) = .ok (.sample 1#1) ∧ decode (.inSym 0b0101#4) = .ok .eos ∧
  decode (.inSym 0b1000#4) = .ok .reset ∧ decode (.inSym 0b0110#4) = .error .severalSymbols ∧
  decode (.fmPair 0b011#3) = .ok .fmLow11 ∧ decode (.fmPair 0b101#3) = .ok .fmHigh01 ∧
  decode (.fmPair 0b111#3) = .ok (.fmHighInvalid 1#1) ∧ decode (.syncMarker 0b010#3 4) = .ok (.syncMarker 4) ∧
  decode (.frame 0x7FF#11 14) = .ok (.frameEnd 14) ∧ decode (.frame 0x241#11 3) = .ok (.frameData 0x41#8 3) ∧
  decode (.frame 0x341#11 3) = .ok (.frameViolation 0x341#11 3) ∧
  decode (.textIn 0x30#8) = .ok .text0 ∧ decode (.textIn 0x31#8) = .ok .text1 ∧
  decode (.textIn 0x32#8) = .ok (.textOther 0x32#8) ∧
  decode (.event 0x01#8 [5, 1]) = .ok (.evLbit 5 1#1) ∧ decode (.event 0x02#8 [7, 1, 0]) = .ok (.evPairErr 7 1#1 0#1) ∧
  decode (.event 0x03#8 [4]) = .ok (.evMarker 4) ∧ decode (.event 0x04#8 [3, 65]) = .ok (.evFrameByte 3 0x41#8) ∧
  decode (.event 0x05#8 [14]) = .ok (.evFrameEnd 14) ∧
  decode (.event 0x06#8 [3, 1, 1, 0]) = .ok (.evSyncViol 3 1#1 1#1 0#1) ∧
  decode (.event 0x07#8 [10]) = .ok (.evIncomplete 10) ∧ decode (.event 0x08#8 [1]) = .ok (.evRecord 1) ∧
  decode (.event 0x09#8 []) = .ok .evDone ∧
  decode (.tapRecord [0x01#8, 0x00#8, 0x00#8, 0x00#8, 0x41#8, 0x01#8, 0x00#8, 0x00#8, 0x00#8]) = .ok (.tapRecord [0x41#8])

/-- 10 R21, R23: when the next word presented decodes to an instruction, the step is that instruction on the state from
whose input the word is taken; the step adds nothing else. -/
def Obligations.StepRunsTheDecodedInstruction : Prop :=
  ∀ (s : State) (w : FormatWord) (ws : List FormatWord) (i : Instr), s.input = w :: ws → decode w = .ok i →
    step s = exec i { s with input := ws }

/-- 60 R216, 30 R70, 42 R141: with nothing presented, with a wire word that is no symbol, and with a window that is not the
SyncMarker, the block holds its state; two symbols in one wire word are refused. -/
def Obligations.StepWithoutASymbolHoldsTheState : Prop :=
  ∀ (s : State) (ws : List FormatWord),
    (s.input = [] → step s = .next s) ∧
    (∀ w, s.input = .inSym w :: ws → w.toNat < 2 → step s = .next { s with input := ws }) ∧
    (∀ w p, s.input = .syncMarker w p :: ws → w ≠ 0b010#3 → step s = .next { s with input := ws }) ∧
    (∀ w, s.input = .inSym w :: ws → (w.toNat = 6 ∨ w.toNat = 7 ∨ 10 ≤ w.toNat) →
      step s = .refused (.illegalWord .severalSymbols))

/-- The host's fetch words: a table word placed in the reset state (log entry 4), read in the format order of
decodeTableWord (log entry 3), is the next instruction to run. -/
def Obligations.PlacedTableWordRunsNext : Prop :=
  ∀ (nbits w : Nat) (i : Instr), decodeTableWord nbits w = some i →
    ∃ t, step (State.reset.withFetchWord nbits w) = .next t ∧
      exec i { State.reset.withFetchWord nbits w with input := [] } = .next t

/-! ### Invariants -/

/-- 10 R35 (registers): every step keeps the register clauses, whatever word is presented. -/
def Obligations.EveryStepKeepsTheRegisterInvariant : Prop :=
  ∀ s t : State, RegsOk s → step s = .next t → RegsOk t

/-- 10 R29, R30, R33: every step keeps the fills at most the number of LogicalBits produced, so that the index of a marker's
or a Frame's first bit is exact. -/
def Obligations.EveryStepKeepsThePositions : Prop :=
  ∀ s t : State, PositionsOk s → step s = .next t → PositionsOk t

/-- 10 R36, R35, 70 R250: the state after RESET, under every configuration and whatever is presented, meets 10 R35 and the
position, window, counter, parity, sink and capacity invariants. State.reset takes the default configuration (log entry 8). -/
def Obligations.ResetStateMeetsTheInvariants : Prop :=
  (∀ (c : Cfg) (ws : List FormatWord), Reachable (State.resetWith c ws) ∧ PositionsOk (State.resetWith c ws) ∧
    WindowsClean (State.resetWith c ws) ∧
    CountersMatchTrace (State.resetWith c ws) ∧ ParityLaw (State.resetWith c ws) ∧ SinkSound (State.resetWith c ws) ∧
    RecordsFit (State.resetWith c ws)) ∧
  State.reset = State.resetWith Cfg.default [] ∧ HostFed State.reset

/-- 10 R35: every step of a host that presents only symbols and characters keeps the whole invariant. -/
def Obligations.HostStepsKeepTheReachableInvariant : Prop :=
  ∀ s t : State, HostFed s → Reachable s → step s = .next t → HostFed t ∧ Reachable t

/-- 10 R29, R30: the window bits above the fill stay 0. -/
def Obligations.HostStepsKeepTheWindowsClean : Prop :=
  ∀ s t : State, HostFed s → Reachable s → WindowsClean s → step s = .next t → WindowsClean t

/-- 41 R132: every step keeps the parity law. -/
def Obligations.HostStepsKeepTheParityLaw : Prop :=
  ∀ s t : State, HostFed s → ParityLaw s → step s = .next t → ParityLaw t

/-- 10 R32, 30 R78: every step keeps each counter equal to the number of its events. -/
def Obligations.HostStepsKeepTheCountersOnTheirEvents : Prop :=
  ∀ s t : State, HostFed s → CountersMatchTrace s → step s = .next t → CountersMatchTrace t

/-- 20 R54, 60 R231: no empty Record reaches the sink, and the TAP stream is the concatenation of the serialised Records. -/
def Obligations.HostStepsKeepTheSinkSound : Prop :=
  ∀ s t : State, HostFed s → SinkSound s → step s = .next t → SinkSound t

/-! ### The line code and the batch process -/

/-- 41 R133, 30 R71: the decode table, all eight cases. -/
def Obligations.DecodePairIsTheTable : Prop :=
  decodePair 1#1 1#1 .low = (some 1#1, .high) ∧ decodePair 1#1 0#1 .low = (some 0#1, .low) ∧
  decodePair 0#1 0#1 .low = (none, .low) ∧ decodePair 0#1 1#1 .low = (none, .low) ∧
  decodePair 0#1 0#1 .high = (some 1#1, .low) ∧ decodePair 0#1 1#1 .high = (some 0#1, .high) ∧
  decodePair 1#1 0#1 .high = (none, .high) ∧ decodePair 1#1 1#1 .high = (none, .high)

/-- 30 R76, R75: the byte of a Frame is the sum of its first eight bits with weight 2^i, and the class of a Frame is END
exactly for eleven 1s and DATA exactly for the trailer 0,1,0. -/
def Obligations.FrameByteAndClassFromItsBits : Prop :=
  ∀ w : FrameWord,
    (frameByte w).toNat = ((List.range 8).map (fun i => (frameBit w i).toNat * 2 ^ i)).sum ∧
    (frameClass w = .endMark ↔ ∀ i < 11, frameBit w i = 1#1) ∧
    (frameClass w = .data ↔ frameBit w 8 = 0#1 ∧ frameBit w 9 = 1#1 ∧ frameBit w 10 = 0#1) ∧
    (frameClass w = .violation ↔ frameClass w ≠ .endMark ∧ frameClass w ≠ .data)

/-- 41 R131: decoding the FM encoding of L from the same line state gives L back with no invalid pair, and leaves the
line state of the last encoded sample. -/
def Obligations.FmRoundTrip : Prop :=
  ∀ (s : LineState) (l : List Bit),
    (decodeSeq (fmEncode s l) s).bits = l ∧ (decodeSeq (fmEncode s l) s).errs = [] ∧
      lineLevel (decodeSeq (fmEncode s l) s).line = ((fmEncode s l).getLast?).getD (lineLevel s)

/-- 70 R251: decoding from the wrong initial LineState loses every LogicalBit up to and including the first encoded 1, one
invalid pair each, and gives all the later ones. -/
def Obligations.WrongInitialLineStateLosesUpToTheFirstOne : Prop :=
  ∀ (s s' : LineState) (n : Nat) (l : List Bit), s' ≠ s →
    (decodeSeq (fmEncode s (List.replicate n 0#1 ++ 1#1 :: l)) s').bits = l ∧
      (decodeSeq (fmEncode s (List.replicate n 0#1 ++ 1#1 :: l)) s').errs.length = n + 1

/-- 40 R107, 42 R166: the block fed a channel sequence and EOS from RESET gives the Records and, kind by kind, the events of
the document's batch process, its final LineState and its counts, provided no fault arises. -/
def Obligations.BlockMatchesTheBatchProcess : Prop :=
  ∀ (c : Cfg) (ws : List FormatWord) (ch : List Bit) (t : State), c.sinkAttached = true →
    feed (channelSymbols ch) (State.resetWith c ws) = .next t → t.fault = none →
    t.fsm = .done ∧ t.sink = (runSeq ch c.initLineState).out ∧
      classifierEvents t.trace = (runSeq ch c.initLineState).events ∧
      traceBits t.trace = (decodeSeq ch c.initLineState).bits ∧
      traceErrs t.trace = (decodeSeq ch c.initLineState).errs ∧
      t.ls = (decodeSeq ch c.initLineState).line ∧
      t.nErr = (decodeSeq ch c.initLineState).errs.length ∧
      t.nLb = (decodeSeq ch c.initLineState).bits.length ∧ t.nCh = ch.length

/-- 42 R151: at every point of a run, without a sink the block has taken the same FSM transitions and emitted the same events
but RECORD; the Record stays empty and nothing was handed out. -/
def Obligations.SinkDecidesOnlyWhetherBytesAreRetained : Prop :=
  ∀ (c : Cfg) (ws : List FormatWord) (ch : List Bit) (is : List Instr) (t u : State), c.sinkAttached = true →
    is <+: channelSymbols ch →
    feed is (State.resetWith c ws) = .next t → t.fault = none →
    feed is (State.resetWith { c with sinkAttached := false } ws) = .next u →
    decoderEvents u.trace = decoderEvents t.trace ∧
      classifierEvents u.trace = (classifierEvents t.trace).filter (fun e => !isRecordEvent e) ∧
      u.fsm = t.fsm ∧ u.ls = t.ls ∧ u.fault = none ∧ u.rcd = [] ∧ u.sink = [] ∧ u.nRec = 0

/-! ### The host's side -/

/-- 10 R34, 60 R207: the status view, register by register, with the fields of STATUS at their bits and the codes of LS, FSM
and FAULT in them (10 R26, R28). -/
def Obligations.StatusViewShowsTheRegisters : Prop :=
  ∀ s : State,
    statusReg s 0#8 = (lineLevel s.cfg.initLineState).toNat + 2 * s.cfg.sinkAttached.toNat ∧
    statusReg s 1#8 = (fsmCode s.fsm).toNat + 4 * (lineLevel s.ls).toNat + 8 * s.hv.toNat + 16 * s.ha.toNat +
      32 * s.wfill.toNat + 128 * s.win.toNat + 1024 * s.ffill.toNat + 65536 * (faultCode s.fault).toNat ∧
    (lineLevel .low = 0#1 ∧ lineLevel .high = 1#1) ∧
    (fsmCode .searching = 0b00#2 ∧ fsmCode .inRecord = 0b01#2 ∧ fsmCode .done = 0b10#2) ∧
    (faultCode none = 0#8 ∧ faultCode (some .protocolViolation) = 1#8 ∧ faultCode (some .recordOverflow) = 2#8 ∧
      faultCode (some .unreachable) = 3#8) ∧
    statusReg s 2#8 = s.frm.toNat ∧
    (s.cfg.cntW = none → statusReg s 3#8 = s.nCh ∧ statusReg s 4#8 = s.nPair ∧ statusReg s 5#8 = s.nErr ∧
      statusReg s 6#8 = s.nLb ∧ statusReg s 7#8 = s.nMark ∧ statusReg s 8#8 = s.nFrame ∧ statusReg s 9#8 = s.nRec) ∧
    (s.rcd.length ≤ Config.maxRecCap → statusReg s 10#8 = s.rcd.length) ∧
    (s.cfg.recCap ≤ Config.maxRecCap → statusReg s 11#8 = s.cfg.recCap) ∧
    (∀ w, s.cfg.cntW = some w → statusReg s 3#8 = s.nCh % 2 ^ w ∧ statusReg s 4#8 = s.nPair % 2 ^ w ∧
      statusReg s 5#8 = s.nErr % 2 ^ w ∧ statusReg s 6#8 = s.nLb % 2 ^ w ∧ statusReg s 7#8 = s.nMark % 2 ^ w ∧
      statusReg s 8#8 = s.nFrame % 2 ^ w ∧ statusReg s 9#8 = s.nRec % 2 ^ w) ∧
    (∀ r : Byte, 12 ≤ r.toNat → statusReg s r = 0) ∧
    (∀ (r : Byte) (v : Nat), statusWrite r v s = .refused .statusReadOnly)

/-- 70 R255, R257, 00 R8: the configuration is set between runs and then RESET; mid-run, or outside its domain, it is
refused. The move and its refusals are log entry 17; that it sets CNT_W with the host's inputs is log entry 21. -/
def Obligations.ConfigurationChangesOnlyBetweenRuns : Prop :=
  ∀ (c : Cfg) (s : State),
    (c.wf = true → (s.fsm = .done ∨ s.fault ≠ none ∨ s.nCh = 0) → configure c s = .next (State.resetWith c s.input)) ∧
    (c.wf = true → s.fsm ≠ .done → s.fault = none → s.nCh ≠ 0 → configure c s = .refused .configurationInRun) ∧
    (¬ (1 ≤ c.recCap ∧ c.recCap ≤ 4294967295) → configure c s = .refused .configurationOutOfDomain)

/-! ### The windows, the capacity, the step relation and the observation -/

/-- 42 R141: the window after a bit is WIN[1:0] with the bit as its newest, bit 0; the fill saturates at 3. -/
def Obligations.WindowPushAndFillByTheirBits : Prop :=
  ∀ (w : WindowWord) (n : BitVec 2) (d : Bit),
    (windowPush w d).extractLsb' 0 1 = d ∧ (windowPush w d).extractLsb' 1 1 = w.extractLsb' 0 1 ∧
      (windowPush w d).extractLsb' 2 1 = w.extractLsb' 1 1 ∧ (fillPush n).toNat = min (n.toNat + 1) 3

/-- 60 R204 with its own proviso: a channel sequence none of whose Records exceeds rec_cap (the Records of the document's
batch process, 42 R165), or any sequence without a sink, runs from RESET to DONE with no fault. -/
def Obligations.InputWhoseRecordsFitNeverFaults : Prop :=
  ∀ (c : Cfg) (ws : List FormatWord) (ch : List Bit), c.wf = true →
    (c.sinkAttached = false ∨ ∀ r ∈ (runSeq ch c.initLineState).out, r.length ≤ c.recCap) →
    ∃ t, feed (channelSymbols ch) (State.resetWith c ws) = .next t ∧ NormalEnd t

/-- 40 R104: the relation Step holds exactly when the instruction answers a next state without a fault, with the events that
stand after the trace the step began with, which for RESET is empty (70 R250); and then it does hold for some events. That
a fault is told by the FAULT register of a next state is log entry 5. -/
def Obligations.NormalStepIsTheNormalAnswer : Prop :=
  ∀ (i : Instr) (s t : State),
    (∀ evs, NormalStep i s t evs ↔
      exec i s = .next t ∧ t.fault = none ∧ t.trace = (if i = .reset then [] else s.trace) ++ evs) ∧
    (exec i s = .next t → t.fault = none → ∃ evs, NormalStep i s t evs)

/-- 20 R63, 92 D12, 40 R105: the observation does not tell the order of two events of different kinds (the kinds: log
entry 14). -/
def Obligations.ObservationIgnoresTheInterleavingOfKinds : Prop :=
  ∀ (s : State) (xs ys : List Event) (e f : Event), eventKind e ≠ eventKind f →
    observe { s with trace := xs ++ e :: f :: ys } = observe { s with trace := xs ++ f :: e :: ys }

/-- 40 R105, 20 R63: the observation keeps every event of the trace, DONE among them, as often as it was emitted, and the
order within a kind: the events of each kind stand in one list, in the order of the trace (the kinds: log entry 14). -/
def Obligations.ObservationKeepsEveryEventInItsKind : Prop :=
  ∀ s : State,
    (∀ e, (observe s).events.flatten.count e = s.trace.count e) ∧
      (∀ l ∈ (observe s).events, l.Sublist s.trace ∧ ∀ e ∈ l, ∀ f ∈ l, eventKind e = eventKind f) ∧
      (∀ k, s.trace.filter (fun e => decide (eventKind e = k)) ∈ (observe s).events)

/-- 40 R102, R105, 60 R209: a run of a channel sequence that ends normally is observed with exactly one DONE and at most one
INCOMPLETE, and with the Records of the sink. -/
def Obligations.NormalRunIsObservedWithOneDone : Prop :=
  ∀ (c : Cfg) (ch : List Bit) (o : Observation), observedRun c (channelSymbols ch) = some o →
    [Event.done] ∈ o.events ∧ o.events.flatten.count .done = 1 ∧
      (o.events.flatten.filter (fun e => decide (eventKind e = .incomplete))).length ≤ 1 ∧
      (c.sinkAttached = true → o.records = (runSeq ch c.initLineState).out)

/-- 30 R80, R70, 10 R35: every step of a host keeps the Records at the sink within rec_cap. -/
def Obligations.HostStepsKeepTheRecordsWithinCapacity : Prop :=
  ∀ s t : State, HostFed s → Reachable s → RecordsFit s → step s = .next t → RecordsFit t
end

