-- ==== Sys2Proof/Laws/State.lean ====
section
/-! SUPPORT. What each named register operation does to each field of the state: one lemma per field per operation, so that
no later proof unfolds a record update. -/

namespace Sys2Proof.Machine

open Sys2Proof

@[simp] theorem emit_cfg (e : Event) (s : State) : (emit e s).cfg = s.cfg := rfl
@[simp] theorem emit_ls (e : Event) (s : State) : (emit e s).ls = s.ls := rfl
@[simp] theorem emit_hv (e : Event) (s : State) : (emit e s).hv = s.hv := rfl
@[simp] theorem emit_ha (e : Event) (s : State) : (emit e s).ha = s.ha := rfl
@[simp] theorem emit_fsm (e : Event) (s : State) : (emit e s).fsm = s.fsm := rfl
@[simp] theorem emit_win (e : Event) (s : State) : (emit e s).win = s.win := rfl
@[simp] theorem emit_wfill (e : Event) (s : State) : (emit e s).wfill = s.wfill := rfl
@[simp] theorem emit_frm (e : Event) (s : State) : (emit e s).frm = s.frm := rfl
@[simp] theorem emit_ffill (e : Event) (s : State) : (emit e s).ffill = s.ffill := rfl
@[simp] theorem emit_rcd (e : Event) (s : State) : (emit e s).rcd = s.rcd := rfl
@[simp] theorem emit_nCh (e : Event) (s : State) : (emit e s).nCh = s.nCh := rfl
@[simp] theorem emit_nPair (e : Event) (s : State) : (emit e s).nPair = s.nPair := rfl
@[simp] theorem emit_nErr (e : Event) (s : State) : (emit e s).nErr = s.nErr := rfl
@[simp] theorem emit_nLb (e : Event) (s : State) : (emit e s).nLb = s.nLb := rfl
@[simp] theorem emit_nMark (e : Event) (s : State) : (emit e s).nMark = s.nMark := rfl
@[simp] theorem emit_nFrame (e : Event) (s : State) : (emit e s).nFrame = s.nFrame := rfl
@[simp] theorem emit_nRec (e : Event) (s : State) : (emit e s).nRec = s.nRec := rfl
@[simp] theorem emit_fault (e : Event) (s : State) : (emit e s).fault = s.fault := rfl
@[simp] theorem emit_trace (e : Event) (s : State) : (emit e s).trace = s.trace ++ [e] := rfl
@[simp] theorem emit_sink (e : Event) (s : State) : (emit e s).sink = s.sink := rfl
@[simp] theorem emit_tap (e : Event) (s : State) : (emit e s).tap = s.tap := rfl
@[simp] theorem emit_input (e : Event) (s : State) : (emit e s).input = s.input := rfl

@[simp] theorem raise_cfg (r : FaultReason) (s : State) : (raise r s).cfg = s.cfg := rfl
@[simp] theorem raise_ls (r : FaultReason) (s : State) : (raise r s).ls = s.ls := rfl
@[simp] theorem raise_hv (r : FaultReason) (s : State) : (raise r s).hv = s.hv := rfl
@[simp] theorem raise_ha (r : FaultReason) (s : State) : (raise r s).ha = s.ha := rfl
@[simp] theorem raise_fsm (r : FaultReason) (s : State) : (raise r s).fsm = s.fsm := rfl
@[simp] theorem raise_win (r : FaultReason) (s : State) : (raise r s).win = s.win := rfl
@[simp] theorem raise_wfill (r : FaultReason) (s : State) : (raise r s).wfill = s.wfill := rfl
@[simp] theorem raise_frm (r : FaultReason) (s : State) : (raise r s).frm = s.frm := rfl
@[simp] theorem raise_ffill (r : FaultReason) (s : State) : (raise r s).ffill = s.ffill := rfl
@[simp] theorem raise_rcd (r : FaultReason) (s : State) : (raise r s).rcd = s.rcd := rfl
@[simp] theorem raise_nCh (r : FaultReason) (s : State) : (raise r s).nCh = s.nCh := rfl
@[simp] theorem raise_nPair (r : FaultReason) (s : State) : (raise r s).nPair = s.nPair := rfl
@[simp] theorem raise_nErr (r : FaultReason) (s : State) : (raise r s).nErr = s.nErr := rfl
@[simp] theorem raise_nLb (r : FaultReason) (s : State) : (raise r s).nLb = s.nLb := rfl
@[simp] theorem raise_nMark (r : FaultReason) (s : State) : (raise r s).nMark = s.nMark := rfl
@[simp] theorem raise_nFrame (r : FaultReason) (s : State) : (raise r s).nFrame = s.nFrame := rfl
@[simp] theorem raise_nRec (r : FaultReason) (s : State) : (raise r s).nRec = s.nRec := rfl
@[simp] theorem raise_fault (r : FaultReason) (s : State) : (raise r s).fault = some r := rfl
@[simp] theorem raise_trace (r : FaultReason) (s : State) : (raise r s).trace = s.trace := rfl
@[simp] theorem raise_sink (r : FaultReason) (s : State) : (raise r s).sink = s.sink := rfl
@[simp] theorem raise_tap (r : FaultReason) (s : State) : (raise r s).tap = s.tap := rfl
@[simp] theorem raise_input (r : FaultReason) (s : State) : (raise r s).input = s.input := rfl

@[simp] theorem setLs_cfg (l : LineState) (s : State) : (setLs l s).cfg = s.cfg := rfl
@[simp] theorem setLs_ls (l : LineState) (s : State) : (setLs l s).ls = l := rfl
@[simp] theorem setLs_hv (l : LineState) (s : State) : (setLs l s).hv = s.hv := rfl
@[simp] theorem setLs_ha (l : LineState) (s : State) : (setLs l s).ha = s.ha := rfl
@[simp] theorem setLs_fsm (l : LineState) (s : State) : (setLs l s).fsm = s.fsm := rfl
@[simp] theorem setLs_win (l : LineState) (s : State) : (setLs l s).win = s.win := rfl
@[simp] theorem setLs_wfill (l : LineState) (s : State) : (setLs l s).wfill = s.wfill := rfl
@[simp] theorem setLs_frm (l : LineState) (s : State) : (setLs l s).frm = s.frm := rfl
@[simp] theorem setLs_ffill (l : LineState) (s : State) : (setLs l s).ffill = s.ffill := rfl
@[simp] theorem setLs_rcd (l : LineState) (s : State) : (setLs l s).rcd = s.rcd := rfl
@[simp] theorem setLs_nCh (l : LineState) (s : State) : (setLs l s).nCh = s.nCh := rfl
@[simp] theorem setLs_nPair (l : LineState) (s : State) : (setLs l s).nPair = s.nPair := rfl
@[simp] theorem setLs_nErr (l : LineState) (s : State) : (setLs l s).nErr = s.nErr := rfl
@[simp] theorem setLs_nLb (l : LineState) (s : State) : (setLs l s).nLb = s.nLb := rfl
@[simp] theorem setLs_nMark (l : LineState) (s : State) : (setLs l s).nMark = s.nMark := rfl
@[simp] theorem setLs_nFrame (l : LineState) (s : State) : (setLs l s).nFrame = s.nFrame := rfl
@[simp] theorem setLs_nRec (l : LineState) (s : State) : (setLs l s).nRec = s.nRec := rfl
@[simp] theorem setLs_fault (l : LineState) (s : State) : (setLs l s).fault = s.fault := rfl
@[simp] theorem setLs_trace (l : LineState) (s : State) : (setLs l s).trace = s.trace := rfl
@[simp] theorem setLs_sink (l : LineState) (s : State) : (setLs l s).sink = s.sink := rfl
@[simp] theorem setLs_tap (l : LineState) (s : State) : (setLs l s).tap = s.tap := rfl
@[simp] theorem setLs_input (l : LineState) (s : State) : (setLs l s).input = s.input := rfl

@[simp] theorem latch_cfg (b : Bit) (s : State) : (latch b s).cfg = s.cfg := rfl
@[simp] theorem latch_ls (b : Bit) (s : State) : (latch b s).ls = s.ls := rfl
@[simp] theorem latch_hv (b : Bit) (s : State) : (latch b s).hv = 1#1 := rfl
@[simp] theorem latch_ha (b : Bit) (s : State) : (latch b s).ha = b := rfl
@[simp] theorem latch_fsm (b : Bit) (s : State) : (latch b s).fsm = s.fsm := rfl
@[simp] theorem latch_win (b : Bit) (s : State) : (latch b s).win = s.win := rfl
@[simp] theorem latch_wfill (b : Bit) (s : State) : (latch b s).wfill = s.wfill := rfl
@[simp] theorem latch_frm (b : Bit) (s : State) : (latch b s).frm = s.frm := rfl
@[simp] theorem latch_ffill (b : Bit) (s : State) : (latch b s).ffill = s.ffill := rfl
@[simp] theorem latch_rcd (b : Bit) (s : State) : (latch b s).rcd = s.rcd := rfl
@[simp] theorem latch_nCh (b : Bit) (s : State) : (latch b s).nCh = s.nCh := rfl
@[simp] theorem latch_nPair (b : Bit) (s : State) : (latch b s).nPair = s.nPair := rfl
@[simp] theorem latch_nErr (b : Bit) (s : State) : (latch b s).nErr = s.nErr := rfl
@[simp] theorem latch_nLb (b : Bit) (s : State) : (latch b s).nLb = s.nLb := rfl
@[simp] theorem latch_nMark (b : Bit) (s : State) : (latch b s).nMark = s.nMark := rfl
@[simp] theorem latch_nFrame (b : Bit) (s : State) : (latch b s).nFrame = s.nFrame := rfl
@[simp] theorem latch_nRec (b : Bit) (s : State) : (latch b s).nRec = s.nRec := rfl
@[simp] theorem latch_fault (b : Bit) (s : State) : (latch b s).fault = s.fault := rfl
@[simp] theorem latch_trace (b : Bit) (s : State) : (latch b s).trace = s.trace := rfl
@[simp] theorem latch_sink (b : Bit) (s : State) : (latch b s).sink = s.sink := rfl
@[simp] theorem latch_tap (b : Bit) (s : State) : (latch b s).tap = s.tap := rfl
@[simp] theorem latch_input (b : Bit) (s : State) : (latch b s).input = s.input := rfl

@[simp] theorem unlatch_cfg (s : State) : (unlatch s).cfg = s.cfg := rfl
@[simp] theorem unlatch_ls (s : State) : (unlatch s).ls = s.ls := rfl
@[simp] theorem unlatch_hv (s : State) : (unlatch s).hv = 0#1 := rfl
@[simp] theorem unlatch_ha (s : State) : (unlatch s).ha = 0#1 := rfl
@[simp] theorem unlatch_fsm (s : State) : (unlatch s).fsm = s.fsm := rfl
@[simp] theorem unlatch_win (s : State) : (unlatch s).win = s.win := rfl
@[simp] theorem unlatch_wfill (s : State) : (unlatch s).wfill = s.wfill := rfl
@[simp] theorem unlatch_frm (s : State) : (unlatch s).frm = s.frm := rfl
@[simp] theorem unlatch_ffill (s : State) : (unlatch s).ffill = s.ffill := rfl
@[simp] theorem unlatch_rcd (s : State) : (unlatch s).rcd = s.rcd := rfl
@[simp] theorem unlatch_nCh (s : State) : (unlatch s).nCh = s.nCh := rfl
@[simp] theorem unlatch_nPair (s : State) : (unlatch s).nPair = s.nPair := rfl
@[simp] theorem unlatch_nErr (s : State) : (unlatch s).nErr = s.nErr := rfl
@[simp] theorem unlatch_nLb (s : State) : (unlatch s).nLb = s.nLb := rfl
@[simp] theorem unlatch_nMark (s : State) : (unlatch s).nMark = s.nMark := rfl
@[simp] theorem unlatch_nFrame (s : State) : (unlatch s).nFrame = s.nFrame := rfl
@[simp] theorem unlatch_nRec (s : State) : (unlatch s).nRec = s.nRec := rfl
@[simp] theorem unlatch_fault (s : State) : (unlatch s).fault = s.fault := rfl
@[simp] theorem unlatch_trace (s : State) : (unlatch s).trace = s.trace := rfl
@[simp] theorem unlatch_sink (s : State) : (unlatch s).sink = s.sink := rfl
@[simp] theorem unlatch_tap (s : State) : (unlatch s).tap = s.tap := rfl
@[simp] theorem unlatch_input (s : State) : (unlatch s).input = s.input := rfl

@[simp] theorem setFsm_cfg (f : Fsm) (s : State) : (setFsm f s).cfg = s.cfg := rfl
@[simp] theorem setFsm_ls (f : Fsm) (s : State) : (setFsm f s).ls = s.ls := rfl
@[simp] theorem setFsm_hv (f : Fsm) (s : State) : (setFsm f s).hv = s.hv := rfl
@[simp] theorem setFsm_ha (f : Fsm) (s : State) : (setFsm f s).ha = s.ha := rfl
@[simp] theorem setFsm_fsm (f : Fsm) (s : State) : (setFsm f s).fsm = f := rfl
@[simp] theorem setFsm_win (f : Fsm) (s : State) : (setFsm f s).win = s.win := rfl
@[simp] theorem setFsm_wfill (f : Fsm) (s : State) : (setFsm f s).wfill = s.wfill := rfl
@[simp] theorem setFsm_frm (f : Fsm) (s : State) : (setFsm f s).frm = s.frm := rfl
@[simp] theorem setFsm_ffill (f : Fsm) (s : State) : (setFsm f s).ffill = s.ffill := rfl
@[simp] theorem setFsm_rcd (f : Fsm) (s : State) : (setFsm f s).rcd = s.rcd := rfl
@[simp] theorem setFsm_nCh (f : Fsm) (s : State) : (setFsm f s).nCh = s.nCh := rfl
@[simp] theorem setFsm_nPair (f : Fsm) (s : State) : (setFsm f s).nPair = s.nPair := rfl
@[simp] theorem setFsm_nErr (f : Fsm) (s : State) : (setFsm f s).nErr = s.nErr := rfl
@[simp] theorem setFsm_nLb (f : Fsm) (s : State) : (setFsm f s).nLb = s.nLb := rfl
@[simp] theorem setFsm_nMark (f : Fsm) (s : State) : (setFsm f s).nMark = s.nMark := rfl
@[simp] theorem setFsm_nFrame (f : Fsm) (s : State) : (setFsm f s).nFrame = s.nFrame := rfl
@[simp] theorem setFsm_nRec (f : Fsm) (s : State) : (setFsm f s).nRec = s.nRec := rfl
@[simp] theorem setFsm_fault (f : Fsm) (s : State) : (setFsm f s).fault = s.fault := rfl
@[simp] theorem setFsm_trace (f : Fsm) (s : State) : (setFsm f s).trace = s.trace := rfl
@[simp] theorem setFsm_sink (f : Fsm) (s : State) : (setFsm f s).sink = s.sink := rfl
@[simp] theorem setFsm_tap (f : Fsm) (s : State) : (setFsm f s).tap = s.tap := rfl
@[simp] theorem setFsm_input (f : Fsm) (s : State) : (setFsm f s).input = s.input := rfl

@[simp] theorem setWindow_cfg (w : WindowWord) (n : BitVec 2) (s : State) : (setWindow w n s).cfg = s.cfg := rfl
@[simp] theorem setWindow_ls (w : WindowWord) (n : BitVec 2) (s : State) : (setWindow w n s).ls = s.ls := rfl
@[simp] theorem setWindow_hv (w : WindowWord) (n : BitVec 2) (s : State) : (setWindow w n s).hv = s.hv := rfl
@[simp] theorem setWindow_ha (w : WindowWord) (n : BitVec 2) (s : State) : (setWindow w n s).ha = s.ha := rfl
@[simp] theorem setWindow_fsm (w : WindowWord) (n : BitVec 2) (s : State) : (setWindow w n s).fsm = s.fsm := rfl
@[simp] theorem setWindow_win (w : WindowWord) (n : BitVec 2) (s : State) : (setWindow w n s).win = w := rfl
@[simp] theorem setWindow_wfill (w : WindowWord) (n : BitVec 2) (s : State) : (setWindow w n s).wfill = n := rfl
@[simp] theorem setWindow_frm (w : WindowWord) (n : BitVec 2) (s : State) : (setWindow w n s).frm = s.frm := rfl
@[simp] theorem setWindow_ffill (w : WindowWord) (n : BitVec 2) (s : State) : (setWindow w n s).ffill = s.ffill := rfl
@[simp] theorem setWindow_rcd (w : WindowWord) (n : BitVec 2) (s : State) : (setWindow w n s).rcd = s.rcd := rfl
@[simp] theorem setWindow_nCh (w : WindowWord) (n : BitVec 2) (s : State) : (setWindow w n s).nCh = s.nCh := rfl
@[simp] theorem setWindow_nPair (w : WindowWord) (n : BitVec 2) (s : State) : (setWindow w n s).nPair = s.nPair := rfl
@[simp] theorem setWindow_nErr (w : WindowWord) (n : BitVec 2) (s : State) : (setWindow w n s).nErr = s.nErr := rfl
@[simp] theorem setWindow_nLb (w : WindowWord) (n : BitVec 2) (s : State) : (setWindow w n s).nLb = s.nLb := rfl
@[simp] theorem setWindow_nMark (w : WindowWord) (n : BitVec 2) (s : State) : (setWindow w n s).nMark = s.nMark := rfl
@[simp] theorem setWindow_nFrame (w : WindowWord) (n : BitVec 2) (s : State) : (setWindow w n s).nFrame = s.nFrame := rfl
@[simp] theorem setWindow_nRec (w : WindowWord) (n : BitVec 2) (s : State) : (setWindow w n s).nRec = s.nRec := rfl
@[simp] theorem setWindow_fault (w : WindowWord) (n : BitVec 2) (s : State) : (setWindow w n s).fault = s.fault := rfl
@[simp] theorem setWindow_trace (w : WindowWord) (n : BitVec 2) (s : State) : (setWindow w n s).trace = s.trace := rfl
@[simp] theorem setWindow_sink (w : WindowWord) (n : BitVec 2) (s : State) : (setWindow w n s).sink = s.sink := rfl
@[simp] theorem setWindow_tap (w : WindowWord) (n : BitVec 2) (s : State) : (setWindow w n s).tap = s.tap := rfl
@[simp] theorem setWindow_input (w : WindowWord) (n : BitVec 2) (s : State) : (setWindow w n s).input = s.input := rfl

@[simp] theorem setFrame_cfg (w : FrameWord) (n : BitVec 4) (s : State) : (setFrame w n s).cfg = s.cfg := rfl
@[simp] theorem setFrame_ls (w : FrameWord) (n : BitVec 4) (s : State) : (setFrame w n s).ls = s.ls := rfl
@[simp] theorem setFrame_hv (w : FrameWord) (n : BitVec 4) (s : State) : (setFrame w n s).hv = s.hv := rfl
@[simp] theorem setFrame_ha (w : FrameWord) (n : BitVec 4) (s : State) : (setFrame w n s).ha = s.ha := rfl
@[simp] theorem setFrame_fsm (w : FrameWord) (n : BitVec 4) (s : State) : (setFrame w n s).fsm = s.fsm := rfl
@[simp] theorem setFrame_win (w : FrameWord) (n : BitVec 4) (s : State) : (setFrame w n s).win = s.win := rfl
@[simp] theorem setFrame_wfill (w : FrameWord) (n : BitVec 4) (s : State) : (setFrame w n s).wfill = s.wfill := rfl
@[simp] theorem setFrame_frm (w : FrameWord) (n : BitVec 4) (s : State) : (setFrame w n s).frm = w := rfl
@[simp] theorem setFrame_ffill (w : FrameWord) (n : BitVec 4) (s : State) : (setFrame w n s).ffill = n := rfl
@[simp] theorem setFrame_rcd (w : FrameWord) (n : BitVec 4) (s : State) : (setFrame w n s).rcd = s.rcd := rfl
@[simp] theorem setFrame_nCh (w : FrameWord) (n : BitVec 4) (s : State) : (setFrame w n s).nCh = s.nCh := rfl
@[simp] theorem setFrame_nPair (w : FrameWord) (n : BitVec 4) (s : State) : (setFrame w n s).nPair = s.nPair := rfl
@[simp] theorem setFrame_nErr (w : FrameWord) (n : BitVec 4) (s : State) : (setFrame w n s).nErr = s.nErr := rfl
@[simp] theorem setFrame_nLb (w : FrameWord) (n : BitVec 4) (s : State) : (setFrame w n s).nLb = s.nLb := rfl
@[simp] theorem setFrame_nMark (w : FrameWord) (n : BitVec 4) (s : State) : (setFrame w n s).nMark = s.nMark := rfl
@[simp] theorem setFrame_nFrame (w : FrameWord) (n : BitVec 4) (s : State) : (setFrame w n s).nFrame = s.nFrame := rfl
@[simp] theorem setFrame_nRec (w : FrameWord) (n : BitVec 4) (s : State) : (setFrame w n s).nRec = s.nRec := rfl
@[simp] theorem setFrame_fault (w : FrameWord) (n : BitVec 4) (s : State) : (setFrame w n s).fault = s.fault := rfl
@[simp] theorem setFrame_trace (w : FrameWord) (n : BitVec 4) (s : State) : (setFrame w n s).trace = s.trace := rfl
@[simp] theorem setFrame_sink (w : FrameWord) (n : BitVec 4) (s : State) : (setFrame w n s).sink = s.sink := rfl
@[simp] theorem setFrame_tap (w : FrameWord) (n : BitVec 4) (s : State) : (setFrame w n s).tap = s.tap := rfl
@[simp] theorem setFrame_input (w : FrameWord) (n : BitVec 4) (s : State) : (setFrame w n s).input = s.input := rfl

@[simp] theorem countCh_cfg (s : State) : (countCh s).cfg = s.cfg := rfl
@[simp] theorem countCh_ls (s : State) : (countCh s).ls = s.ls := rfl
@[simp] theorem countCh_hv (s : State) : (countCh s).hv = s.hv := rfl
@[simp] theorem countCh_ha (s : State) : (countCh s).ha = s.ha := rfl
@[simp] theorem countCh_fsm (s : State) : (countCh s).fsm = s.fsm := rfl
@[simp] theorem countCh_win (s : State) : (countCh s).win = s.win := rfl
@[simp] theorem countCh_wfill (s : State) : (countCh s).wfill = s.wfill := rfl
@[simp] theorem countCh_frm (s : State) : (countCh s).frm = s.frm := rfl
@[simp] theorem countCh_ffill (s : State) : (countCh s).ffill = s.ffill := rfl
@[simp] theorem countCh_rcd (s : State) : (countCh s).rcd = s.rcd := rfl
@[simp] theorem countCh_nCh (s : State) : (countCh s).nCh = s.nCh + 1 := rfl
@[simp] theorem countCh_nPair (s : State) : (countCh s).nPair = s.nPair := rfl
@[simp] theorem countCh_nErr (s : State) : (countCh s).nErr = s.nErr := rfl
@[simp] theorem countCh_nLb (s : State) : (countCh s).nLb = s.nLb := rfl
@[simp] theorem countCh_nMark (s : State) : (countCh s).nMark = s.nMark := rfl
@[simp] theorem countCh_nFrame (s : State) : (countCh s).nFrame = s.nFrame := rfl
@[simp] theorem countCh_nRec (s : State) : (countCh s).nRec = s.nRec := rfl
@[simp] theorem countCh_fault (s : State) : (countCh s).fault = s.fault := rfl
@[simp] theorem countCh_trace (s : State) : (countCh s).trace = s.trace := rfl
@[simp] theorem countCh_sink (s : State) : (countCh s).sink = s.sink := rfl
@[simp] theorem countCh_tap (s : State) : (countCh s).tap = s.tap := rfl
@[simp] theorem countCh_input (s : State) : (countCh s).input = s.input := rfl

@[simp] theorem countPair_cfg (s : State) : (countPair s).cfg = s.cfg := rfl
@[simp] theorem countPair_ls (s : State) : (countPair s).ls = s.ls := rfl
@[simp] theorem countPair_hv (s : State) : (countPair s).hv = s.hv := rfl
@[simp] theorem countPair_ha (s : State) : (countPair s).ha = s.ha := rfl
@[simp] theorem countPair_fsm (s : State) : (countPair s).fsm = s.fsm := rfl
@[simp] theorem countPair_win (s : State) : (countPair s).win = s.win := rfl
@[simp] theorem countPair_wfill (s : State) : (countPair s).wfill = s.wfill := rfl
@[simp] theorem countPair_frm (s : State) : (countPair s).frm = s.frm := rfl
@[simp] theorem countPair_ffill (s : State) : (countPair s).ffill = s.ffill := rfl
@[simp] theorem countPair_rcd (s : State) : (countPair s).rcd = s.rcd := rfl
@[simp] theorem countPair_nCh (s : State) : (countPair s).nCh = s.nCh := rfl
@[simp] theorem countPair_nPair (s : State) : (countPair s).nPair = s.nPair + 1 := rfl
@[simp] theorem countPair_nErr (s : State) : (countPair s).nErr = s.nErr := rfl
@[simp] theorem countPair_nLb (s : State) : (countPair s).nLb = s.nLb := rfl
@[simp] theorem countPair_nMark (s : State) : (countPair s).nMark = s.nMark := rfl
@[simp] theorem countPair_nFrame (s : State) : (countPair s).nFrame = s.nFrame := rfl
@[simp] theorem countPair_nRec (s : State) : (countPair s).nRec = s.nRec := rfl
@[simp] theorem countPair_fault (s : State) : (countPair s).fault = s.fault := rfl
@[simp] theorem countPair_trace (s : State) : (countPair s).trace = s.trace := rfl
@[simp] theorem countPair_sink (s : State) : (countPair s).sink = s.sink := rfl
@[simp] theorem countPair_tap (s : State) : (countPair s).tap = s.tap := rfl
@[simp] theorem countPair_input (s : State) : (countPair s).input = s.input := rfl

@[simp] theorem countErr_cfg (s : State) : (countErr s).cfg = s.cfg := rfl
@[simp] theorem countErr_ls (s : State) : (countErr s).ls = s.ls := rfl
@[simp] theorem countErr_hv (s : State) : (countErr s).hv = s.hv := rfl
@[simp] theorem countErr_ha (s : State) : (countErr s).ha = s.ha := rfl
@[simp] theorem countErr_fsm (s : State) : (countErr s).fsm = s.fsm := rfl
@[simp] theorem countErr_win (s : State) : (countErr s).win = s.win := rfl
@[simp] theorem countErr_wfill (s : State) : (countErr s).wfill = s.wfill := rfl
@[simp] theorem countErr_frm (s : State) : (countErr s).frm = s.frm := rfl
@[simp] theorem countErr_ffill (s : State) : (countErr s).ffill = s.ffill := rfl
@[simp] theorem countErr_rcd (s : State) : (countErr s).rcd = s.rcd := rfl
@[simp] theorem countErr_nCh (s : State) : (countErr s).nCh = s.nCh := rfl
@[simp] theorem countErr_nPair (s : State) : (countErr s).nPair = s.nPair := rfl
@[simp] theorem countErr_nErr (s : State) : (countErr s).nErr = s.nErr + 1 := rfl
@[simp] theorem countErr_nLb (s : State) : (countErr s).nLb = s.nLb := rfl
@[simp] theorem countErr_nMark (s : State) : (countErr s).nMark = s.nMark := rfl
@[simp] theorem countErr_nFrame (s : State) : (countErr s).nFrame = s.nFrame := rfl
@[simp] theorem countErr_nRec (s : State) : (countErr s).nRec = s.nRec := rfl
@[simp] theorem countErr_fault (s : State) : (countErr s).fault = s.fault := rfl
@[simp] theorem countErr_trace (s : State) : (countErr s).trace = s.trace := rfl
@[simp] theorem countErr_sink (s : State) : (countErr s).sink = s.sink := rfl
@[simp] theorem countErr_tap (s : State) : (countErr s).tap = s.tap := rfl
@[simp] theorem countErr_input (s : State) : (countErr s).input = s.input := rfl

@[simp] theorem countLb_cfg (s : State) : (countLb s).cfg = s.cfg := rfl
@[simp] theorem countLb_ls (s : State) : (countLb s).ls = s.ls := rfl
@[simp] theorem countLb_hv (s : State) : (countLb s).hv = s.hv := rfl
@[simp] theorem countLb_ha (s : State) : (countLb s).ha = s.ha := rfl
@[simp] theorem countLb_fsm (s : State) : (countLb s).fsm = s.fsm := rfl
@[simp] theorem countLb_win (s : State) : (countLb s).win = s.win := rfl
@[simp] theorem countLb_wfill (s : State) : (countLb s).wfill = s.wfill := rfl
@[simp] theorem countLb_frm (s : State) : (countLb s).frm = s.frm := rfl
@[simp] theorem countLb_ffill (s : State) : (countLb s).ffill = s.ffill := rfl
@[simp] theorem countLb_rcd (s : State) : (countLb s).rcd = s.rcd := rfl
@[simp] theorem countLb_nCh (s : State) : (countLb s).nCh = s.nCh := rfl
@[simp] theorem countLb_nPair (s : State) : (countLb s).nPair = s.nPair := rfl
@[simp] theorem countLb_nErr (s : State) : (countLb s).nErr = s.nErr := rfl
@[simp] theorem countLb_nLb (s : State) : (countLb s).nLb = s.nLb + 1 := rfl
@[simp] theorem countLb_nMark (s : State) : (countLb s).nMark = s.nMark := rfl
@[simp] theorem countLb_nFrame (s : State) : (countLb s).nFrame = s.nFrame := rfl
@[simp] theorem countLb_nRec (s : State) : (countLb s).nRec = s.nRec := rfl
@[simp] theorem countLb_fault (s : State) : (countLb s).fault = s.fault := rfl
@[simp] theorem countLb_trace (s : State) : (countLb s).trace = s.trace := rfl
@[simp] theorem countLb_sink (s : State) : (countLb s).sink = s.sink := rfl
@[simp] theorem countLb_tap (s : State) : (countLb s).tap = s.tap := rfl
@[simp] theorem countLb_input (s : State) : (countLb s).input = s.input := rfl

@[simp] theorem countMark_cfg (s : State) : (countMark s).cfg = s.cfg := rfl
@[simp] theorem countMark_ls (s : State) : (countMark s).ls = s.ls := rfl
@[simp] theorem countMark_hv (s : State) : (countMark s).hv = s.hv := rfl
@[simp] theorem countMark_ha (s : State) : (countMark s).ha = s.ha := rfl
@[simp] theorem countMark_fsm (s : State) : (countMark s).fsm = s.fsm := rfl
@[simp] theorem countMark_win (s : State) : (countMark s).win = s.win := rfl
@[simp] theorem countMark_wfill (s : State) : (countMark s).wfill = s.wfill := rfl
@[simp] theorem countMark_frm (s : State) : (countMark s).frm = s.frm := rfl
@[simp] theorem countMark_ffill (s : State) : (countMark s).ffill = s.ffill := rfl
@[simp] theorem countMark_rcd (s : State) : (countMark s).rcd = s.rcd := rfl
@[simp] theorem countMark_nCh (s : State) : (countMark s).nCh = s.nCh := rfl
@[simp] theorem countMark_nPair (s : State) : (countMark s).nPair = s.nPair := rfl
@[simp] theorem countMark_nErr (s : State) : (countMark s).nErr = s.nErr := rfl
@[simp] theorem countMark_nLb (s : State) : (countMark s).nLb = s.nLb := rfl
@[simp] theorem countMark_nMark (s : State) : (countMark s).nMark = s.nMark + 1 := rfl
@[simp] theorem countMark_nFrame (s : State) : (countMark s).nFrame = s.nFrame := rfl
@[simp] theorem countMark_nRec (s : State) : (countMark s).nRec = s.nRec := rfl
@[simp] theorem countMark_fault (s : State) : (countMark s).fault = s.fault := rfl
@[simp] theorem countMark_trace (s : State) : (countMark s).trace = s.trace := rfl
@[simp] theorem countMark_sink (s : State) : (countMark s).sink = s.sink := rfl
@[simp] theorem countMark_tap (s : State) : (countMark s).tap = s.tap := rfl
@[simp] theorem countMark_input (s : State) : (countMark s).input = s.input := rfl

@[simp] theorem countFrame_cfg (s : State) : (countFrame s).cfg = s.cfg := rfl
@[simp] theorem countFrame_ls (s : State) : (countFrame s).ls = s.ls := rfl
@[simp] theorem countFrame_hv (s : State) : (countFrame s).hv = s.hv := rfl
@[simp] theorem countFrame_ha (s : State) : (countFrame s).ha = s.ha := rfl
@[simp] theorem countFrame_fsm (s : State) : (countFrame s).fsm = s.fsm := rfl
@[simp] theorem countFrame_win (s : State) : (countFrame s).win = s.win := rfl
@[simp] theorem countFrame_wfill (s : State) : (countFrame s).wfill = s.wfill := rfl
@[simp] theorem countFrame_frm (s : State) : (countFrame s).frm = s.frm := rfl
@[simp] theorem countFrame_ffill (s : State) : (countFrame s).ffill = s.ffill := rfl
@[simp] theorem countFrame_rcd (s : State) : (countFrame s).rcd = s.rcd := rfl
@[simp] theorem countFrame_nCh (s : State) : (countFrame s).nCh = s.nCh := rfl
@[simp] theorem countFrame_nPair (s : State) : (countFrame s).nPair = s.nPair := rfl
@[simp] theorem countFrame_nErr (s : State) : (countFrame s).nErr = s.nErr := rfl
@[simp] theorem countFrame_nLb (s : State) : (countFrame s).nLb = s.nLb := rfl
@[simp] theorem countFrame_nMark (s : State) : (countFrame s).nMark = s.nMark := rfl
@[simp] theorem countFrame_nFrame (s : State) : (countFrame s).nFrame = s.nFrame + 1 := rfl
@[simp] theorem countFrame_nRec (s : State) : (countFrame s).nRec = s.nRec := rfl
@[simp] theorem countFrame_fault (s : State) : (countFrame s).fault = s.fault := rfl
@[simp] theorem countFrame_trace (s : State) : (countFrame s).trace = s.trace := rfl
@[simp] theorem countFrame_sink (s : State) : (countFrame s).sink = s.sink := rfl
@[simp] theorem countFrame_tap (s : State) : (countFrame s).tap = s.tap := rfl
@[simp] theorem countFrame_input (s : State) : (countFrame s).input = s.input := rfl

@[simp] theorem countRec_cfg (s : State) : (countRec s).cfg = s.cfg := rfl
@[simp] theorem countRec_ls (s : State) : (countRec s).ls = s.ls := rfl
@[simp] theorem countRec_hv (s : State) : (countRec s).hv = s.hv := rfl
@[simp] theorem countRec_ha (s : State) : (countRec s).ha = s.ha := rfl
@[simp] theorem countRec_fsm (s : State) : (countRec s).fsm = s.fsm := rfl
@[simp] theorem countRec_win (s : State) : (countRec s).win = s.win := rfl
@[simp] theorem countRec_wfill (s : State) : (countRec s).wfill = s.wfill := rfl
@[simp] theorem countRec_frm (s : State) : (countRec s).frm = s.frm := rfl
@[simp] theorem countRec_ffill (s : State) : (countRec s).ffill = s.ffill := rfl
@[simp] theorem countRec_rcd (s : State) : (countRec s).rcd = s.rcd := rfl
@[simp] theorem countRec_nCh (s : State) : (countRec s).nCh = s.nCh := rfl
@[simp] theorem countRec_nPair (s : State) : (countRec s).nPair = s.nPair := rfl
@[simp] theorem countRec_nErr (s : State) : (countRec s).nErr = s.nErr := rfl
@[simp] theorem countRec_nLb (s : State) : (countRec s).nLb = s.nLb := rfl
@[simp] theorem countRec_nMark (s : State) : (countRec s).nMark = s.nMark := rfl
@[simp] theorem countRec_nFrame (s : State) : (countRec s).nFrame = s.nFrame := rfl
@[simp] theorem countRec_nRec (s : State) : (countRec s).nRec = s.nRec + 1 := rfl
@[simp] theorem countRec_fault (s : State) : (countRec s).fault = s.fault := rfl
@[simp] theorem countRec_trace (s : State) : (countRec s).trace = s.trace := rfl
@[simp] theorem countRec_sink (s : State) : (countRec s).sink = s.sink := rfl
@[simp] theorem countRec_tap (s : State) : (countRec s).tap = s.tap := rfl
@[simp] theorem countRec_input (s : State) : (countRec s).input = s.input := rfl

@[simp] theorem pushByte_cfg (v : Byte) (s : State) : (pushByte v s).cfg = s.cfg := rfl
@[simp] theorem pushByte_ls (v : Byte) (s : State) : (pushByte v s).ls = s.ls := rfl
@[simp] theorem pushByte_hv (v : Byte) (s : State) : (pushByte v s).hv = s.hv := rfl
@[simp] theorem pushByte_ha (v : Byte) (s : State) : (pushByte v s).ha = s.ha := rfl
@[simp] theorem pushByte_fsm (v : Byte) (s : State) : (pushByte v s).fsm = s.fsm := rfl
@[simp] theorem pushByte_win (v : Byte) (s : State) : (pushByte v s).win = s.win := rfl
@[simp] theorem pushByte_wfill (v : Byte) (s : State) : (pushByte v s).wfill = s.wfill := rfl
@[simp] theorem pushByte_frm (v : Byte) (s : State) : (pushByte v s).frm = s.frm := rfl
@[simp] theorem pushByte_ffill (v : Byte) (s : State) : (pushByte v s).ffill = s.ffill := rfl
@[simp] theorem pushByte_rcd (v : Byte) (s : State) : (pushByte v s).rcd = s.rcd ++ [v] := rfl
@[simp] theorem pushByte_nCh (v : Byte) (s : State) : (pushByte v s).nCh = s.nCh := rfl
@[simp] theorem pushByte_nPair (v : Byte) (s : State) : (pushByte v s).nPair = s.nPair := rfl
@[simp] theorem pushByte_nErr (v : Byte) (s : State) : (pushByte v s).nErr = s.nErr := rfl
@[simp] theorem pushByte_nLb (v : Byte) (s : State) : (pushByte v s).nLb = s.nLb := rfl
@[simp] theorem pushByte_nMark (v : Byte) (s : State) : (pushByte v s).nMark = s.nMark := rfl
@[simp] theorem pushByte_nFrame (v : Byte) (s : State) : (pushByte v s).nFrame = s.nFrame := rfl
@[simp] theorem pushByte_nRec (v : Byte) (s : State) : (pushByte v s).nRec = s.nRec := rfl
@[simp] theorem pushByte_fault (v : Byte) (s : State) : (pushByte v s).fault = s.fault := rfl
@[simp] theorem pushByte_trace (v : Byte) (s : State) : (pushByte v s).trace = s.trace := rfl
@[simp] theorem pushByte_sink (v : Byte) (s : State) : (pushByte v s).sink = s.sink := rfl
@[simp] theorem pushByte_tap (v : Byte) (s : State) : (pushByte v s).tap = s.tap := rfl
@[simp] theorem pushByte_input (v : Byte) (s : State) : (pushByte v s).input = s.input := rfl

@[simp] theorem recClear_cfg (s : State) : (recClear s).cfg = s.cfg := rfl
@[simp] theorem recClear_ls (s : State) : (recClear s).ls = s.ls := rfl
@[simp] theorem recClear_hv (s : State) : (recClear s).hv = s.hv := rfl
@[simp] theorem recClear_ha (s : State) : (recClear s).ha = s.ha := rfl
@[simp] theorem recClear_fsm (s : State) : (recClear s).fsm = s.fsm := rfl
@[simp] theorem recClear_win (s : State) : (recClear s).win = s.win := rfl
@[simp] theorem recClear_wfill (s : State) : (recClear s).wfill = s.wfill := rfl
@[simp] theorem recClear_frm (s : State) : (recClear s).frm = s.frm := rfl
@[simp] theorem recClear_ffill (s : State) : (recClear s).ffill = s.ffill := rfl
@[simp] theorem recClear_rcd (s : State) : (recClear s).rcd = [] := rfl
@[simp] theorem recClear_nCh (s : State) : (recClear s).nCh = s.nCh := rfl
@[simp] theorem recClear_nPair (s : State) : (recClear s).nPair = s.nPair := rfl
@[simp] theorem recClear_nErr (s : State) : (recClear s).nErr = s.nErr := rfl
@[simp] theorem recClear_nLb (s : State) : (recClear s).nLb = s.nLb := rfl
@[simp] theorem recClear_nMark (s : State) : (recClear s).nMark = s.nMark := rfl
@[simp] theorem recClear_nFrame (s : State) : (recClear s).nFrame = s.nFrame := rfl
@[simp] theorem recClear_nRec (s : State) : (recClear s).nRec = s.nRec := rfl
@[simp] theorem recClear_fault (s : State) : (recClear s).fault = s.fault := rfl
@[simp] theorem recClear_trace (s : State) : (recClear s).trace = s.trace := rfl
@[simp] theorem recClear_sink (s : State) : (recClear s).sink = s.sink := rfl
@[simp] theorem recClear_tap (s : State) : (recClear s).tap = s.tap := rfl
@[simp] theorem recClear_input (s : State) : (recClear s).input = s.input := rfl

@[simp] theorem serialise_cfg (r : Record) (s : State) : (serialise r s).cfg = s.cfg := rfl
@[simp] theorem serialise_ls (r : Record) (s : State) : (serialise r s).ls = s.ls := rfl
@[simp] theorem serialise_hv (r : Record) (s : State) : (serialise r s).hv = s.hv := rfl
@[simp] theorem serialise_ha (r : Record) (s : State) : (serialise r s).ha = s.ha := rfl
@[simp] theorem serialise_fsm (r : Record) (s : State) : (serialise r s).fsm = s.fsm := rfl
@[simp] theorem serialise_win (r : Record) (s : State) : (serialise r s).win = s.win := rfl
@[simp] theorem serialise_wfill (r : Record) (s : State) : (serialise r s).wfill = s.wfill := rfl
@[simp] theorem serialise_frm (r : Record) (s : State) : (serialise r s).frm = s.frm := rfl
@[simp] theorem serialise_ffill (r : Record) (s : State) : (serialise r s).ffill = s.ffill := rfl
@[simp] theorem serialise_rcd (r : Record) (s : State) : (serialise r s).rcd = s.rcd := rfl
@[simp] theorem serialise_nCh (r : Record) (s : State) : (serialise r s).nCh = s.nCh := rfl
@[simp] theorem serialise_nPair (r : Record) (s : State) : (serialise r s).nPair = s.nPair := rfl
@[simp] theorem serialise_nErr (r : Record) (s : State) : (serialise r s).nErr = s.nErr := rfl
@[simp] theorem serialise_nLb (r : Record) (s : State) : (serialise r s).nLb = s.nLb := rfl
@[simp] theorem serialise_nMark (r : Record) (s : State) : (serialise r s).nMark = s.nMark := rfl
@[simp] theorem serialise_nFrame (r : Record) (s : State) : (serialise r s).nFrame = s.nFrame := rfl
@[simp] theorem serialise_nRec (r : Record) (s : State) : (serialise r s).nRec = s.nRec := rfl
@[simp] theorem serialise_fault (r : Record) (s : State) : (serialise r s).fault = s.fault := rfl
@[simp] theorem serialise_trace (r : Record) (s : State) : (serialise r s).trace = s.trace := rfl
@[simp] theorem serialise_sink (r : Record) (s : State) : (serialise r s).sink = s.sink := rfl
@[simp] theorem serialise_tap (r : Record) (s : State) : (serialise r s).tap = s.tap ++ (emitRecord r).getD [] := rfl
@[simp] theorem serialise_input (r : Record) (s : State) : (serialise r s).input = s.input := rfl

@[simp] theorem deliver_cfg (r : Record) (s : State) : (deliver r s).cfg = s.cfg := rfl
@[simp] theorem deliver_ls (r : Record) (s : State) : (deliver r s).ls = s.ls := rfl
@[simp] theorem deliver_hv (r : Record) (s : State) : (deliver r s).hv = s.hv := rfl
@[simp] theorem deliver_ha (r : Record) (s : State) : (deliver r s).ha = s.ha := rfl
@[simp] theorem deliver_fsm (r : Record) (s : State) : (deliver r s).fsm = s.fsm := rfl
@[simp] theorem deliver_win (r : Record) (s : State) : (deliver r s).win = s.win := rfl
@[simp] theorem deliver_wfill (r : Record) (s : State) : (deliver r s).wfill = s.wfill := rfl
@[simp] theorem deliver_frm (r : Record) (s : State) : (deliver r s).frm = s.frm := rfl
@[simp] theorem deliver_ffill (r : Record) (s : State) : (deliver r s).ffill = s.ffill := rfl
@[simp] theorem deliver_rcd (r : Record) (s : State) : (deliver r s).rcd = s.rcd := rfl
@[simp] theorem deliver_nCh (r : Record) (s : State) : (deliver r s).nCh = s.nCh := rfl
@[simp] theorem deliver_nPair (r : Record) (s : State) : (deliver r s).nPair = s.nPair := rfl
@[simp] theorem deliver_nErr (r : Record) (s : State) : (deliver r s).nErr = s.nErr := rfl
@[simp] theorem deliver_nLb (r : Record) (s : State) : (deliver r s).nLb = s.nLb := rfl
@[simp] theorem deliver_nMark (r : Record) (s : State) : (deliver r s).nMark = s.nMark := rfl
@[simp] theorem deliver_nFrame (r : Record) (s : State) : (deliver r s).nFrame = s.nFrame := rfl
@[simp] theorem deliver_nRec (r : Record) (s : State) : (deliver r s).nRec = s.nRec := rfl
@[simp] theorem deliver_fault (r : Record) (s : State) : (deliver r s).fault = s.fault := rfl
@[simp] theorem deliver_trace (r : Record) (s : State) : (deliver r s).trace = s.trace := rfl
@[simp] theorem deliver_sink (r : Record) (s : State) : (deliver r s).sink = s.sink ++ [r] := rfl
@[simp] theorem deliver_tap (r : Record) (s : State) : (deliver r s).tap = s.tap := rfl
@[simp] theorem deliver_input (r : Record) (s : State) : (deliver r s).input = s.input := rfl

@[simp] theorem setInput_cfg (ws : List FormatWord) (s : State) : (setInput ws s).cfg = s.cfg := rfl
@[simp] theorem setInput_ls (ws : List FormatWord) (s : State) : (setInput ws s).ls = s.ls := rfl
@[simp] theorem setInput_hv (ws : List FormatWord) (s : State) : (setInput ws s).hv = s.hv := rfl
@[simp] theorem setInput_ha (ws : List FormatWord) (s : State) : (setInput ws s).ha = s.ha := rfl
@[simp] theorem setInput_fsm (ws : List FormatWord) (s : State) : (setInput ws s).fsm = s.fsm := rfl
@[simp] theorem setInput_win (ws : List FormatWord) (s : State) : (setInput ws s).win = s.win := rfl
@[simp] theorem setInput_wfill (ws : List FormatWord) (s : State) : (setInput ws s).wfill = s.wfill := rfl
@[simp] theorem setInput_frm (ws : List FormatWord) (s : State) : (setInput ws s).frm = s.frm := rfl
@[simp] theorem setInput_ffill (ws : List FormatWord) (s : State) : (setInput ws s).ffill = s.ffill := rfl
@[simp] theorem setInput_rcd (ws : List FormatWord) (s : State) : (setInput ws s).rcd = s.rcd := rfl
@[simp] theorem setInput_nCh (ws : List FormatWord) (s : State) : (setInput ws s).nCh = s.nCh := rfl
@[simp] theorem setInput_nPair (ws : List FormatWord) (s : State) : (setInput ws s).nPair = s.nPair := rfl
@[simp] theorem setInput_nErr (ws : List FormatWord) (s : State) : (setInput ws s).nErr = s.nErr := rfl
@[simp] theorem setInput_nLb (ws : List FormatWord) (s : State) : (setInput ws s).nLb = s.nLb := rfl
@[simp] theorem setInput_nMark (ws : List FormatWord) (s : State) : (setInput ws s).nMark = s.nMark := rfl
@[simp] theorem setInput_nFrame (ws : List FormatWord) (s : State) : (setInput ws s).nFrame = s.nFrame := rfl
@[simp] theorem setInput_nRec (ws : List FormatWord) (s : State) : (setInput ws s).nRec = s.nRec := rfl
@[simp] theorem setInput_fault (ws : List FormatWord) (s : State) : (setInput ws s).fault = s.fault := rfl
@[simp] theorem setInput_trace (ws : List FormatWord) (s : State) : (setInput ws s).trace = s.trace := rfl
@[simp] theorem setInput_sink (ws : List FormatWord) (s : State) : (setInput ws s).sink = s.sink := rfl
@[simp] theorem setInput_tap (ws : List FormatWord) (s : State) : (setInput ws s).tap = s.tap := rfl
@[simp] theorem setInput_input (ws : List FormatWord) (s : State) : (setInput ws s).input = ws := rfl

@[simp] theorem recOut_cfg (r : Record) (s : State) : (recOut r s).cfg = s.cfg := rfl
@[simp] theorem recOut_ls (r : Record) (s : State) : (recOut r s).ls = s.ls := rfl
@[simp] theorem recOut_hv (r : Record) (s : State) : (recOut r s).hv = s.hv := rfl
@[simp] theorem recOut_ha (r : Record) (s : State) : (recOut r s).ha = s.ha := rfl
@[simp] theorem recOut_fsm (r : Record) (s : State) : (recOut r s).fsm = s.fsm := rfl
@[simp] theorem recOut_win (r : Record) (s : State) : (recOut r s).win = s.win := rfl
@[simp] theorem recOut_wfill (r : Record) (s : State) : (recOut r s).wfill = s.wfill := rfl
@[simp] theorem recOut_frm (r : Record) (s : State) : (recOut r s).frm = s.frm := rfl
@[simp] theorem recOut_ffill (r : Record) (s : State) : (recOut r s).ffill = s.ffill := rfl
@[simp] theorem recOut_rcd (r : Record) (s : State) : (recOut r s).rcd = s.rcd := rfl
@[simp] theorem recOut_nCh (r : Record) (s : State) : (recOut r s).nCh = s.nCh := rfl
@[simp] theorem recOut_nPair (r : Record) (s : State) : (recOut r s).nPair = s.nPair := rfl
@[simp] theorem recOut_nErr (r : Record) (s : State) : (recOut r s).nErr = s.nErr := rfl
@[simp] theorem recOut_nLb (r : Record) (s : State) : (recOut r s).nLb = s.nLb := rfl
@[simp] theorem recOut_nMark (r : Record) (s : State) : (recOut r s).nMark = s.nMark := rfl
@[simp] theorem recOut_nFrame (r : Record) (s : State) : (recOut r s).nFrame = s.nFrame := rfl
@[simp] theorem recOut_nRec (r : Record) (s : State) : (recOut r s).nRec = s.nRec := rfl
@[simp] theorem recOut_fault (r : Record) (s : State) : (recOut r s).fault = s.fault := rfl
@[simp] theorem recOut_trace (r : Record) (s : State) : (recOut r s).trace = s.trace := rfl
@[simp] theorem recOut_sink (r : Record) (s : State) : (recOut r s).sink = s.sink ++ [r] := rfl
@[simp] theorem recOut_tap (r : Record) (s : State) : (recOut r s).tap = s.tap ++ (emitRecord r).getD [] := rfl
@[simp] theorem recOut_input (r : Record) (s : State) : (recOut r s).input = s.input := rfl

@[simp] theorem enterSearching_cfg (s : State) : (enterSearching s).cfg = s.cfg := rfl
@[simp] theorem enterSearching_ls (s : State) : (enterSearching s).ls = s.ls := rfl
@[simp] theorem enterSearching_hv (s : State) : (enterSearching s).hv = s.hv := rfl
@[simp] theorem enterSearching_ha (s : State) : (enterSearching s).ha = s.ha := rfl
@[simp] theorem enterSearching_fsm (s : State) : (enterSearching s).fsm = .searching := rfl
@[simp] theorem enterSearching_win (s : State) : (enterSearching s).win = 0#3 := rfl
@[simp] theorem enterSearching_wfill (s : State) : (enterSearching s).wfill = 0#2 := rfl
@[simp] theorem enterSearching_frm (s : State) : (enterSearching s).frm = s.frm := rfl
@[simp] theorem enterSearching_ffill (s : State) : (enterSearching s).ffill = s.ffill := rfl
@[simp] theorem enterSearching_rcd (s : State) : (enterSearching s).rcd = s.rcd := rfl
@[simp] theorem enterSearching_nCh (s : State) : (enterSearching s).nCh = s.nCh := rfl
@[simp] theorem enterSearching_nPair (s : State) : (enterSearching s).nPair = s.nPair := rfl
@[simp] theorem enterSearching_nErr (s : State) : (enterSearching s).nErr = s.nErr := rfl
@[simp] theorem enterSearching_nLb (s : State) : (enterSearching s).nLb = s.nLb := rfl
@[simp] theorem enterSearching_nMark (s : State) : (enterSearching s).nMark = s.nMark := rfl
@[simp] theorem enterSearching_nFrame (s : State) : (enterSearching s).nFrame = s.nFrame := rfl
@[simp] theorem enterSearching_nRec (s : State) : (enterSearching s).nRec = s.nRec := rfl
@[simp] theorem enterSearching_fault (s : State) : (enterSearching s).fault = s.fault := rfl
@[simp] theorem enterSearching_trace (s : State) : (enterSearching s).trace = s.trace := rfl
@[simp] theorem enterSearching_sink (s : State) : (enterSearching s).sink = s.sink := rfl
@[simp] theorem enterSearching_tap (s : State) : (enterSearching s).tap = s.tap := rfl
@[simp] theorem enterSearching_input (s : State) : (enterSearching s).input = s.input := rfl

end Sys2Proof.Machine
end

