-- ==== Sys2Proof/Laws/Ops.lean ====
section
/-! SUPPORT. What each shared operation can do, said once: the guards, the Record buffer, the decode of a pair, the class of
a Frame, and the cases of one instruction's execution. -/

namespace Sys2Proof.Machine

open Sys2Proof

/-! ### The invariant of 10 R35 as a conjunction -/

theorem regsOk_iff (s : State) : regsOk s = true ↔
    s.fsm ≠ .unused ∧ (s.fsm = .searching ∨ s.wfill = 0#2) ∧ s.ffill.toNat ≤ 10 ∧ (s.fsm = .inRecord ∨ s.ffill = 0#4) ∧
      (s.hv = 0#1 → s.ha = 0#1) ∧ (s.fsm = .inRecord ∨ s.rcd = []) ∧ s.rcd.length ≤ s.cfg.recCap ∧
        (s.cfg.sinkAttached = true ∨ s.rcd = []) := by
  simp only [regsOk, State.rlen, Bool.and_eq_true, decide_eq_true_eq, List.length_eq_zero_iff, and_assoc]

theorem countsOk_iff (s : State) : countsOk s = true ↔
    s.nLb + s.nErr = s.nPair ∧ s.nPair = s.nCh / 2 ∧ (s.fsm = .done ∨ s.hv.toNat = s.nCh % 2) := by
  simp only [countsOk, Bool.and_eq_true, decide_eq_true_eq, and_assoc]

theorem reachable_iff (s : State) : reachable s = true ↔ regsOk s = true ∧ countsOk s = true := by
  simp only [reachable, Bool.and_eq_true]

theorem regsOk_of_reachable {s : State} (h : reachable s = true) : regsOk s = true := ((reachable_iff s).mp h).1

/-! ### The guards -/

theorem takeSymbol_stuck {act : State → State} {s : State} {r : FaultReason} (hf : s.fault = some r) :
    takeSymbol act s = .fault (.stuck r) := by simp [takeSymbol, hf]

theorem takeSymbol_normal {act : State → State} {s : State} (hf : s.fault = none) (hr : reachable s = true)
    (hd : s.fsm ≠ .done) : takeSymbol act s = .next (act s) := by simp [takeSymbol, hf, hr, hd]

theorem takeSymbol_done {act : State → State} {s : State} (hf : s.fault = none) (hr : reachable s = true)
    (hd : s.fsm = .done) : takeSymbol act s = .next (raise .protocolViolation s) := by simp [takeSymbol, hf, hr, hd]

theorem takeSymbol_outside {act : State → State} {s : State} (hf : s.fault = none) (hr : reachable s = false) :
    takeSymbol act s = .next (raise .unreachable s) := by simp [takeSymbol, hf, hr]

/-- A guarded symbol that answers next runs its action in a live reachable state, or raises a fault. -/
theorem takeSymbol_next {act : State → State} {s t : State} (h : takeSymbol act s = .next t) :
    s.fault = none ∧ ((reachable s = true ∧ s.fsm ≠ .done ∧ t = act s) ∨ ∃ r, t = raise r s) := by
  unfold takeSymbol at h
  cases hf : s.fault with
  | some r => simp [hf] at h
  | none =>
    simp only [hf] at h
    refine ⟨rfl, ?_⟩
    by_cases hr : reachable s = true
    · by_cases hd : s.fsm = .done
      · simp only [hr, hd, if_true, Host.Outcome.next.injEq] at h
        exact .inr ⟨_, h.symm⟩
      · simp only [hr, hd, if_true, if_false, Host.Outcome.next.injEq] at h
        exact .inl ⟨hr, hd, h.symm⟩
    · simp only [hr, if_false, Host.Outcome.next.injEq, Bool.false_eq_true] at h
      exact .inr ⟨_, h.symm⟩

theorem withinStep_stuck {act : State → Host.Outcome State Fault Refusal} {s : State} {r : FaultReason}
    (hf : s.fault = some r) : withinStep act s = .fault (.stuck r) := by simp [withinStep, hf]

theorem withinStep_normal {act : State → Host.Outcome State Fault Refusal} {s : State} (hf : s.fault = none)
    (hr : regsOk s = true) : withinStep act s = act s := by simp [withinStep, hf, hr]

/-- An operation within a step that answers next ran with its registers in order, or raised Unreachable. -/
theorem withinStep_next {act : State → Host.Outcome State Fault Refusal} {s t : State}
    (h : withinStep act s = .next t) :
    s.fault = none ∧ ((regsOk s = true ∧ act s = .next t) ∨ t = raise .unreachable s) := by
  unfold withinStep at h
  cases hf : s.fault with
  | some r => simp [hf] at h
  | none =>
    simp only [hf] at h
    refine ⟨rfl, ?_⟩
    by_cases hr : regsOk s = true
    · simp only [hr, if_true] at h
      exact .inl ⟨hr, h⟩
    · simp only [hr, if_false, Host.Outcome.next.injEq, Bool.false_eq_true] at h
      exact .inr h.symm

theorem withinStep_outside {act : State → Host.Outcome State Fault Refusal} {s : State} (hf : s.fault = none)
    (hr : regsOk s = false) : withinStep act s = .next (raise .unreachable s) := by simp [withinStep, hf, hr]

theorem output_normal {e : Event} {s : State} (hf : s.fault = none) : output e s = .next (emit e s) := by
  simp [output, hf]

theorem output_next {e : Event} {s t : State} (h : output e s = .next t) : s.fault = none ∧ t = emit e s := by
  unfold output at h
  cases hf : s.fault with
  | some r => simp [hf] at h
  | none =>
    simp only [hf, Host.Outcome.next.injEq] at h
    exact ⟨rfl, h.symm⟩

theorem takePair_next {l : LineState} {a b : Bit} {s t : State} (h : takePair l a b s = .next t) :
    (regsOk s = true ∧ s.fault = none ∧ s.ls = l ∧ s.fsm ≠ .done ∧ t = decodeStep a b s) ∨ ∃ r, t = raise r s := by
  obtain ⟨hf, ⟨hr, h⟩ | h⟩ := withinStep_next h
  · by_cases hd : s.fsm = .done
    · simp only [hd, if_true, Host.Outcome.next.injEq] at h
      exact .inr ⟨_, h.symm⟩
    · by_cases hl : s.ls = l
      · simp only [hd, hl, if_true, if_false, Host.Outcome.next.injEq] at h
        exact .inl ⟨hr, hf, hl, hd, h.symm⟩
      · simp [hd, hl] at h
  · exact .inr ⟨_, h⟩

theorem takeFrameWord_next {w : FrameWord} {q : Nat} {s t : State} (h : takeFrameWord w q s = .next t) :
    (regsOk s = true ∧ s.fault = none ∧ s.fsm = .inRecord ∧ t = takeFrame w q s) ∨ ∃ r, t = raise r s := by
  obtain ⟨hf, ⟨hr, h⟩ | h⟩ := withinStep_next h
  · by_cases hd : s.fsm = .inRecord
    · simp only [hd, if_true, Host.Outcome.next.injEq] at h
      exact .inl ⟨hr, hf, hd, h.symm⟩
    · simp [hd] at h
  · exact .inr ⟨_, h⟩

theorem takeMarker_next {first : Nat} {s t : State} (h : takeMarker first s = .next t) :
    (regsOk s = true ∧ s.fault = none ∧ s.fsm = .searching ∧ t = markerTest first s) ∨ t = s ∨ ∃ r, t = raise r s := by
  obtain ⟨hf, ⟨hr, h⟩ | h⟩ := withinStep_next h
  · by_cases hd : s.fsm = .searching
    · simp only [hd, if_true, Host.Outcome.next.injEq] at h
      exact .inl ⟨hr, hf, hd, h.symm⟩
    · simp only [hd, if_false, Host.Outcome.next.injEq] at h
      exact .inr (.inl h.symm)
  · exact .inr (.inr ⟨_, h⟩)

theorem takePair_normal {l : LineState} {a b : Bit} {s : State} (hf : s.fault = none) (hr : regsOk s = true)
    (hd : s.fsm ≠ .done) (hl : s.ls = l) : takePair l a b s = .next (decodeStep a b s) := by
  unfold takePair
  rw [withinStep_normal hf hr]
  simp [hd, hl]

theorem takeFrameWord_normal {w : FrameWord} {q : Nat} {s : State} (hf : s.fault = none) (hr : regsOk s = true)
    (hs : s.fsm = .inRecord) : takeFrameWord w q s = .next (takeFrame w q s) := by
  unfold takeFrameWord
  rw [withinStep_normal hf hr]
  simp [hs]

theorem takePair_done {l : LineState} {a b : Bit} {s : State} (hf : s.fault = none) (hr : regsOk s = true)
    (hd : s.fsm = .done) : takePair l a b s = .next (raise .protocolViolation s) := by
  unfold takePair
  rw [withinStep_normal hf hr]
  simp [hd]

theorem takePair_differs {l : LineState} {a b : Bit} {s : State} (hf : s.fault = none) (hr : regsOk s = true)
    (hd : s.fsm ≠ .done) (hl : s.ls ≠ l) : takePair l a b s = .refused .lineStateDiffers := by
  unfold takePair
  rw [withinStep_normal hf hr]
  simp [hd, hl]

theorem takeFrameWord_outside {w : FrameWord} {q : Nat} {s : State} (hf : s.fault = none) (hr : regsOk s = true)
    (hs : s.fsm ≠ .inRecord) : takeFrameWord w q s = .refused .frameOutsideRecord := by
  unfold takeFrameWord
  rw [withinStep_normal hf hr]
  simp [hs]

theorem takePair_unreachable {l : LineState} {a b : Bit} {s : State} (hf : s.fault = none) (hr : regsOk s = false) :
    takePair l a b s = .next (raise .unreachable s) := withinStep_outside hf hr

theorem takeFrameWord_unreachable {w : FrameWord} {q : Nat} {s : State} (hf : s.fault = none) (hr : regsOk s = false) :
    takeFrameWord w q s = .next (raise .unreachable s) := withinStep_outside hf hr

theorem takeMarker_unreachable {first : Nat} {s : State} (hf : s.fault = none) (hr : regsOk s = false) :
    takeMarker first s = .next (raise .unreachable s) := withinStep_outside hf hr

/-- Everything one instruction can do when it answers a next state. -/
inductive ExecCase (s : State) : Instr → State → Prop where
  | held {i : Instr} : i ≠ .reset → ExecCase s i s
  | raised {i : Instr} (r : FaultReason) : i ≠ .reset → ExecCase s i (raise r s)
  | sampled {i : Instr} (b : Bit) : i ≠ .reset → s.fault = none → reachable s = true → s.fsm ≠ .done →
      ExecCase s i (sampleAct b s)
  | ended : s.fault = none → reachable s = true → s.fsm ≠ .done → ExecCase s .eos (eosAct s)
  | restarted : ExecCase s .reset (resetRun s)
  | paired {i : Instr} (a b : Bit) : hostMove i = false → s.fault = none → regsOk s = true → s.fsm ≠ .done →
      ExecCase s i (decodeStep a b s)
  | marked {i : Instr} (first : Nat) : hostMove i = false → s.fault = none → regsOk s = true → s.fsm = .searching →
      ExecCase s i (markerTest first s)
  | framed {i : Instr} (w : FrameWord) (q : Nat) : hostMove i = false → s.fault = none → regsOk s = true →
      s.fsm = .inRecord → ExecCase s i (takeFrame w q s)
  | emitted {i : Instr} (e : Event) : hostMove i = false → s.fault = none → ExecCase s i (emit e s)
  | serialised {i : Instr} (p : Record) : hostMove i = false → ExecCase s i (serialise p s)

theorem takeSample_case {i : Instr} (hi : i ≠ .reset) {b : Bit} {s t : State} (h : takeSample b s = .next t) :
    ExecCase s i t := by
  obtain ⟨hf, ⟨hr, hd, rfl⟩ | ⟨r, rfl⟩⟩ := takeSymbol_next h
  · exact .sampled b hi hf hr hd
  · exact .raised r hi

theorem takePair_case {i : Instr} (hi : i ≠ .reset) (hm : hostMove i = false) {l : LineState} {a b : Bit} {s t : State}
    (h : takePair l a b s = .next t) : ExecCase s i t := by
  obtain ⟨hr, hf, _, hd, rfl⟩ | ⟨r, rfl⟩ := takePair_next h
  · exact .paired a b hm hf hr hd
  · exact .raised r hi

theorem takeFrameWord_case {i : Instr} (hi : i ≠ .reset) (hm : hostMove i = false) {w : FrameWord} {q : Nat}
    {s t : State} (h : takeFrameWord w q s = .next t) : ExecCase s i t := by
  obtain ⟨hr, hf, hd, rfl⟩ | ⟨r, rfl⟩ := takeFrameWord_next h
  · exact .framed w q hm hf hr hd
  · exact .raised r hi

theorem output_case {i : Instr} (hm : hostMove i = false) {e : Event} {s t : State} (h : output e s = .next t) :
    ExecCase s i t := by
  obtain ⟨hf, rfl⟩ := output_next h
  exact .emitted e hm hf

/-- The inversion of exec: an instruction that answers a next state is in one of the cases above. -/
theorem exec_cases {i : Instr} {s t : State} (h : exec i s = .next t) : ExecCase s i t := by
  cases i with
  | sample b => exact takeSample_case (by simp) h
  | eos =>
    obtain ⟨hf, ⟨hr, hd, rfl⟩ | ⟨r, rfl⟩⟩ := takeSymbol_next (h : takeSymbol eosAct s = .next t)
    · exact .ended hf hr hd
    · exact .raised r (by simp)
  | reset => cases (h : Host.Outcome.next (resetRun s) = .next t); exact .restarted
  | fmLow11 => exact takePair_case (by simp) rfl h
  | fmLow10 => exact takePair_case (by simp) rfl h
  | fmHigh00 => exact takePair_case (by simp) rfl h
  | fmHigh01 => exact takePair_case (by simp) rfl h
  | fmLowInvalid b => exact takePair_case (by simp) rfl h
  | fmHighInvalid b => exact takePair_case (by simp) rfl h
  | syncMarker first =>
    obtain ⟨hr, hf, hd, rfl⟩ | rfl | ⟨r, rfl⟩ := takeMarker_next (h : takeMarker first s = .next t)
    · exact .marked first rfl hf hr hd
    · exact .held (by simp)
    · exact .raised r (by simp)
  | frameEnd q => exact takeFrameWord_case (by simp) rfl h
  | frameData v q => exact takeFrameWord_case (by simp) rfl h
  | frameViolation w q => exact takeFrameWord_case (by simp) rfl h
  | text0 => exact takeSample_case (by simp) h
  | text1 => exact takeSample_case (by simp) h
  | textOther c => cases (h : Host.Outcome.next s = .next t); exact .held (by simp)
  | evLbit p d => exact output_case rfl h
  | evPairErr k a b => exact output_case rfl h
  | evMarker p => exact output_case rfl h
  | evFrameByte p v => exact output_case rfl h
  | evFrameEnd p => exact output_case rfl h
  | evSyncViol p t0 t1 t2 => exact output_case rfl h
  | evIncomplete f => exact output_case rfl h
  | evRecord n => exact output_case rfl h
  | evDone => exact output_case rfl h
  | tapRecord p => cases (h : Host.Outcome.next (serialise p s) = .next t); exact .serialised p rfl

/-! ### The Record buffer -/

theorem flush_empty {s : State} (h : s.rcd = []) : flush s = recClear s := by simp [flush, State.rlen, h]

theorem flush_nonempty {s : State} (h : s.rcd ≠ []) :
    flush s = recClear (emit (.record s.rlen) (countRec (recOut s.rcd s))) := by
  have : 1 ≤ s.rlen := List.length_pos_iff.mpr h
  simp [flush, this]

@[simp] theorem flush_cfg (s : State) : (flush s).cfg = s.cfg := by
  by_cases h : s.rcd = []
  · rw [flush_empty h]; simp
  · rw [flush_nonempty h]; simp [recOut]

@[simp] theorem flush_ls (s : State) : (flush s).ls = s.ls := by
  by_cases h : s.rcd = []
  · rw [flush_empty h]; simp
  · rw [flush_nonempty h]; simp [recOut]

@[simp] theorem flush_hv (s : State) : (flush s).hv = s.hv := by
  by_cases h : s.rcd = []
  · rw [flush_empty h]; simp
  · rw [flush_nonempty h]; simp [recOut]

@[simp] theorem flush_ha (s : State) : (flush s).ha = s.ha := by
  by_cases h : s.rcd = []
  · rw [flush_empty h]; simp
  · rw [flush_nonempty h]; simp [recOut]

@[simp] theorem flush_fsm (s : State) : (flush s).fsm = s.fsm := by
  by_cases h : s.rcd = []
  · rw [flush_empty h]; simp
  · rw [flush_nonempty h]; simp [recOut]

@[simp] theorem flush_win (s : State) : (flush s).win = s.win := by
  by_cases h : s.rcd = []
  · rw [flush_empty h]; simp
  · rw [flush_nonempty h]; simp [recOut]

@[simp] theorem flush_wfill (s : State) : (flush s).wfill = s.wfill := by
  by_cases h : s.rcd = []
  · rw [flush_empty h]; simp
  · rw [flush_nonempty h]; simp [recOut]

@[simp] theorem flush_frm (s : State) : (flush s).frm = s.frm := by
  by_cases h : s.rcd = []
  · rw [flush_empty h]; simp
  · rw [flush_nonempty h]; simp [recOut]

@[simp] theorem flush_ffill (s : State) : (flush s).ffill = s.ffill := by
  by_cases h : s.rcd = []
  · rw [flush_empty h]; simp
  · rw [flush_nonempty h]; simp [recOut]

@[simp] theorem flush_nCh (s : State) : (flush s).nCh = s.nCh := by
  by_cases h : s.rcd = []
  · rw [flush_empty h]; simp
  · rw [flush_nonempty h]; simp [recOut]

@[simp] theorem flush_nPair (s : State) : (flush s).nPair = s.nPair := by
  by_cases h : s.rcd = []
  · rw [flush_empty h]; simp
  · rw [flush_nonempty h]; simp [recOut]

@[simp] theorem flush_nErr (s : State) : (flush s).nErr = s.nErr := by
  by_cases h : s.rcd = []
  · rw [flush_empty h]; simp
  · rw [flush_nonempty h]; simp [recOut]

@[simp] theorem flush_nLb (s : State) : (flush s).nLb = s.nLb := by
  by_cases h : s.rcd = []
  · rw [flush_empty h]; simp
  · rw [flush_nonempty h]; simp [recOut]

@[simp] theorem flush_nMark (s : State) : (flush s).nMark = s.nMark := by
  by_cases h : s.rcd = []
  · rw [flush_empty h]; simp
  · rw [flush_nonempty h]; simp [recOut]

@[simp] theorem flush_nFrame (s : State) : (flush s).nFrame = s.nFrame := by
  by_cases h : s.rcd = []
  · rw [flush_empty h]; simp
  · rw [flush_nonempty h]; simp [recOut]

@[simp] theorem flush_fault (s : State) : (flush s).fault = s.fault := by
  by_cases h : s.rcd = []
  · rw [flush_empty h]; simp
  · rw [flush_nonempty h]; simp [recOut]

@[simp] theorem flush_input (s : State) : (flush s).input = s.input := by
  by_cases h : s.rcd = []
  · rw [flush_empty h]; simp
  · rw [flush_nonempty h]; simp [recOut]

@[simp] theorem flush_rcd (s : State) : (flush s).rcd = [] := by
  by_cases h : s.rcd = []
  · rw [flush_empty h]; simp
  · rw [flush_nonempty h]; simp [recOut]

theorem recAppend_room {v : Byte} {s : State} (h : s.rlen ≠ s.cfg.recCap) : recAppend v s = pushByte v s := by
  simp [recAppend, h]

theorem recAppend_full {v : Byte} {s : State} (h : s.rlen = s.cfg.recCap) :
    recAppend v s = raise .recordOverflow s := by simp [recAppend, h]

theorem emitRecord_nonempty {r : Record} (h : r ≠ []) : emitRecord r = some (le32 r.length ++ r ++ le32 r.length) := by
  have : r.length ≠ 0 := by simpa using h
  simp [emitRecord, this]

@[simp] theorem emitRecord_nil : emitRecord [] = none := rfl

/-! ### Bits, pairs and Frames -/

theorem bit_cases (b : Bit) : b = 0#1 ∨ b = 1#1 := by
  revert b; decide

theorem decodePair_invalid {a b : Bit} {s : LineState} (h : a = lineLevel s) : decodePair a b s = (none, s) := by
  simp [decodePair, h]

/-- A valid pair's LogicalBit and new line state, in the closed form of 30 R72. -/
theorem decodePair_valid {a b : Bit} {s : LineState} (h : a ≠ lineLevel s) :
    decodePair a b s = (some (if b = a then 1#1 else 0#1), lineOfLevel b) := by
  by_cases hb : b = a <;> simp [decodePair, h, hb]

@[simp] theorem lineOfLevel_lineLevel (l : LineState) : lineOfLevel (lineLevel l) = l := by cases l <;> decide

@[simp] theorem lineLevel_lineOfLevel (b : Bit) : lineLevel (lineOfLevel b) = b := by revert b; decide

/-- The parity law of one pair: a valid pair moves LS by its LogicalBit (41 R132). -/
theorem fmNext_of_valid {a b : Bit} {s : LineState} (h : a ≠ lineLevel s) :
    lineOfLevel b = fmNext s (if b = a then 1#1 else 0#1) := by
  revert a b s; intro a b s
  cases s <;> revert a b <;> decide

theorem decodeStep_invalid {a b : Bit} {s : State} (h : a = lineLevel s.ls) :
    decodeStep a b s = invalidPair s.nPair a b (countPair s) := by simp [decodeStep, decodePair_invalid h]

theorem decodeStep_valid {a b : Bit} {s : State} (h : a ≠ lineLevel s.ls) :
    decodeStep a b s = validPair (if b = a then 1#1 else 0#1) (lineOfLevel b) (countPair s) := by
  simp [decodeStep, decodePair_valid h]

theorem frameClass_end : frameClass Config.endFrame = .endMark := by decide

theorem frameClass_data (v : Byte) : frameClass (frameOfByte v) = .data := by
  revert v; decide

theorem frameByte_frameOfByte (v : Byte) : frameByte (frameOfByte v) = v := by
  revert v; decide

/-- A DATA word is the word of its byte. -/
theorem frameOfByte_frameByte {w : FrameWord} (h : frameClass w = .data) : frameOfByte (frameByte w) = w := by
  have ht : frameTrailer w = Config.marker := by
    unfold frameClass at h
    split at h
    · cases h
    · split at h
      · assumption
      · cases h
  simp only [frameOfByte, frameByte]
  rw [← ht]
  simp only [frameTrailer]
  ext i hi
  simp only [BitVec.getElem_append, BitVec.getElem_extractLsb']
  split
  · simp [BitVec.getLsbD_eq_getElem hi]
  · rename_i hlt
    have : 8 + (i - 8) = i := by omega
    rw [this, BitVec.getLsbD_eq_getElem hi]

/-! ### The classifier's steps, one lemma per branch -/

theorem markerTest_match {first : Nat} {s : State} (hn : s.wfill = 3#2) (hw : s.win = 0b010#3) :
    markerTest first s = markerMatch first s := if_pos ⟨hn, hw⟩

theorem markerTest_other {first : Nat} {s : State} (h : ¬ (s.wfill = 3#2 ∧ s.win = 0b010#3)) :
    markerTest first s = s := if_neg h

theorem searchStep_match {d : Bit} {p : Nat} {s : State} (hn : fillPush s.wfill = 3#2)
    (hw : windowPush s.win d = 0b010#3) :
    searchStep d p s = markerMatch (p - 2) (setWindow 0b010#3 3#2 s) := by
  unfold searchStep
  rw [hn, hw]
  exact markerTest_match rfl rfl

theorem searchStep_slide {d : Bit} {p : Nat} {s : State}
    (h : ¬ (fillPush s.wfill = 3#2 ∧ windowPush s.win d = 0b010#3)) :
    searchStep d p s = setWindow (windowPush s.win d) (fillPush s.wfill) s := markerTest_other h

theorem frameStep_store {d : Bit} {p : Nat} {s : State} (h : s.ffill.toNat < 10) :
    frameStep d p s = setFrame (frameSet s.frm s.ffill.toNat d) (s.ffill + 1#4) s := if_pos h

theorem frameStep_complete {d : Bit} {p : Nat} {s : State} (h : ¬ s.ffill.toNat < 10) :
    frameStep d p s = takeFrame (frameSet s.frm s.ffill.toNat d) (p - 10) s := if_neg h

theorem classifyBit_searching {d : Bit} {p : Nat} {s : State} (h : s.fsm = .searching) :
    classifyBit d p s = searchStep d p s := by simp [classifyBit, h]

theorem classifyBit_inRecord {d : Bit} {p : Nat} {s : State} (h : s.fsm = .inRecord) :
    classifyBit d p s = frameStep d p s := by simp [classifyBit, h]

theorem takeFrame_end {w : FrameWord} {q : Nat} {s : State} (h : frameClass w = .endMark) :
    takeFrame w q s = frameEndAction q (countFrame (setFrame 0#11 0#4 s)) := by simp [takeFrame, classifyFrame, h]

theorem takeFrame_data {w : FrameWord} {q : Nat} {s : State} (h : frameClass w = .data) :
    takeFrame w q s = frameDataAction (frameByte w) q (countFrame (setFrame 0#11 0#4 s)) := by
  simp [takeFrame, classifyFrame, h]

theorem takeFrame_violation {w : FrameWord} {q : Nat} {s : State} (h : frameClass w = .violation) :
    takeFrame w q s = frameViolAction w q (countFrame (setFrame 0#11 0#4 s)) := by simp [takeFrame, classifyFrame, h]

theorem frameDataAction_noSink {v : Byte} {q : Nat} {s : State} (h : s.cfg.sinkAttached = false) :
    frameDataAction v q s = emit (.frameByte q v) s := by simp [frameDataAction, h]

theorem frameDataAction_room {v : Byte} {q : Nat} {s : State} (h : s.cfg.sinkAttached = true)
    (hr : s.rlen ≠ s.cfg.recCap) : frameDataAction v q s = pushByte v (emit (.frameByte q v) s) := by
  unfold frameDataAction
  rw [if_pos h]
  exact recAppend_room hr

theorem frameDataAction_full {v : Byte} {q : Nat} {s : State} (h : s.cfg.sinkAttached = true)
    (hr : s.rlen = s.cfg.recCap) :
    frameDataAction v q s = raise .recordOverflow (emit (.frameByte q v) s) := by
  unfold frameDataAction
  rw [if_pos h]
  exact recAppend_full hr

theorem pairStep_first {b : Bit} {s : State} (h : s.hv = 0#1) : pairStep b s = latch b s := if_pos h

theorem pairStep_second {b : Bit} {s : State} (h : s.hv ≠ 0#1) : pairStep b s = decodeStep s.ha b (unlatch s) := if_neg h

theorem closeRecord_inRecord {s : State} (h : s.fsm = .inRecord) : closeRecord s = endOfRecordStream s := if_pos h

theorem closeRecord_other {s : State} (h : s.fsm ≠ .inRecord) : closeRecord s = s := if_neg h

/-- The row a Frame word decodes to consumes exactly that word. -/
theorem exec_decodeFrame (w : FrameWord) (q : Nat) (s : State) : exec (decodeFrame w q) s = takeFrameWord w q s := by
  unfold decodeFrame
  cases h : frameClass w with
  | endMark =>
    have hw : w = Config.endFrame := by
      unfold frameClass at h
      split at h
      · assumption
      · split at h <;> cases h
    rw [hw]
    rfl
  | data => exact congrArg (fun v => takeFrameWord v q s) (frameOfByte_frameByte h)
  | violation => rfl

/-- The row a pair word decodes to is the pair itself. -/
theorem exec_decodeFmPair (l : LineState) (a b : Bit) (s : State) :
    exec (decodeFmPair (pairWord (lineLevel l) a b)) s = takePair l a b s := by
  cases l <;> (rcases bit_cases a with rfl | rfl <;> rcases bit_cases b with rfl | rfl) <;> rfl

end Sys2Proof.Machine
end

