-- ==== Sys2Proof/Laws/Cases.lean ====
section
/-! SUPPORT. The inversions: which branch a shared operation of the classifier, EOS or the step took, said once. -/

namespace Sys2Proof.Machine

open Sys2Proof

/-- CLASSIFY_BIT in its five branches (42 R140, R141, R143). -/
theorem classifyBit_cases (d : Bit) (p : Nat) (s : State) :
    (s.fsm ≠ .searching ∧ s.fsm ≠ .inRecord ∧ classifyBit d p s = s) ∨
    (s.fsm = .searching ∧ ¬ (fillPush s.wfill = 3#2 ∧ windowPush s.win d = 0b010#3) ∧
      classifyBit d p s = setWindow (windowPush s.win d) (fillPush s.wfill) s) ∨
    (s.fsm = .searching ∧ fillPush s.wfill = 3#2 ∧ windowPush s.win d = 0b010#3 ∧
      classifyBit d p s = markerMatch (p - 2) (setWindow 0b010#3 3#2 s)) ∨
    (s.fsm = .inRecord ∧ s.ffill.toNat < 10 ∧
      classifyBit d p s = setFrame (frameSet s.frm s.ffill.toNat d) (s.ffill + 1#4) s) ∨
    (s.fsm = .inRecord ∧ ¬ s.ffill.toNat < 10 ∧
      classifyBit d p s = takeFrame (frameSet s.frm s.ffill.toNat d) (p - 10) s) := by
  cases h : s.fsm with
  | searching =>
    rw [classifyBit_searching h]
    by_cases hm : fillPush s.wfill = 3#2 ∧ windowPush s.win d = 0b010#3
    · exact .inr (.inr (.inl ⟨rfl, hm.1, hm.2, searchStep_match hm.1 hm.2⟩))
    · exact .inr (.inl ⟨rfl, hm, searchStep_slide hm⟩)
  | inRecord =>
    rw [classifyBit_inRecord h]
    by_cases hm : s.ffill.toNat < 10
    · exact .inr (.inr (.inr (.inl ⟨rfl, hm, frameStep_store hm⟩)))
    · exact .inr (.inr (.inr (.inr ⟨rfl, hm, frameStep_complete hm⟩)))
  | done => exact .inl ⟨nofun, nofun, by simp [classifyBit, h]⟩
  | unused => exact .inl ⟨nofun, nofun, by simp [classifyBit, h]⟩

/-- The state in which a consumed Frame is classified: FRM and FFILL are 0 and the Frame is counted (42 R143, R144). -/
abbrev frameTaken (s : State) : State := countFrame (setFrame 0#11 0#4 s)

/-- A consumed Frame in its five outcomes (42 R144 to R147, 20 R52). -/
theorem takeFrame_cases (w : FrameWord) (q : Nat) (s : State) :
    (frameClass w = .endMark ∧ takeFrame w q s = enterSearching (flush (emit (.frameEnd q) (frameTaken s)))) ∨
    (frameClass w = .violation ∧ takeFrame w q s =
      enterSearching (flush (emit (.syncViol q (frameBit w 8) (frameBit w 9) (frameBit w 10)) (frameTaken s)))) ∨
    (frameClass w = .data ∧ s.cfg.sinkAttached = false ∧
      takeFrame w q s = emit (.frameByte q (frameByte w)) (frameTaken s)) ∨
    (frameClass w = .data ∧ s.cfg.sinkAttached = true ∧ s.rlen ≠ s.cfg.recCap ∧
      takeFrame w q s = pushByte (frameByte w) (emit (.frameByte q (frameByte w)) (frameTaken s))) ∨
    (frameClass w = .data ∧ s.cfg.sinkAttached = true ∧ s.rlen = s.cfg.recCap ∧
      takeFrame w q s = raise .recordOverflow (emit (.frameByte q (frameByte w)) (frameTaken s))) := by
  cases h : frameClass w with
  | endMark => exact .inl ⟨rfl, takeFrame_end h⟩
  | violation => exact .inr (.inl ⟨rfl, takeFrame_violation h⟩)
  | data =>
    rw [takeFrame_data h]
    by_cases hs : s.cfg.sinkAttached = true
    · by_cases hr : s.rlen = s.cfg.recCap
      · exact .inr (.inr (.inr (.inr ⟨rfl, hs, hr, frameDataAction_full hs hr⟩)))
      · exact .inr (.inr (.inr (.inl ⟨rfl, hs, hr, frameDataAction_room hs hr⟩)))
    · have hs' : s.cfg.sinkAttached = false := by simpa using hs
      exact .inr (.inr (.inl ⟨rfl, hs', frameDataAction_noSink hs'⟩))

/-- The two cases of EOS (40 R102): a record stream is closed by INCOMPLETE and a flush, or there is none. -/
theorem closeRecord_cases (s : State) :
    (s.fsm = .inRecord ∧ closeRecord s = flush (emit (.incomplete s.ffill.toNat) s)) ∨
    (s.fsm ≠ .inRecord ∧ closeRecord s = s) := by
  by_cases h : s.fsm = .inRecord
  · exact .inl ⟨h, closeRecord_inRecord h⟩
  · exact .inr ⟨h, closeRecord_other h⟩

/-- A pair in its two outcomes (41 R121), the valid one in the form of the parity law (41 R132). -/
theorem decodeStep_cases (a b : Bit) (s : State) :
    (a = lineLevel s.ls ∧ decodeStep a b s = invalidPair s.nPair a b (countPair s)) ∨
    (∃ d, a ≠ lineLevel s.ls ∧ decodePair a b s.ls = (some d, fmNext s.ls d) ∧
      decodeStep a b s = validPair d (fmNext s.ls d) (countPair s)) := by
  by_cases h : a = lineLevel s.ls
  · exact .inl ⟨h, decodeStep_invalid h⟩
  · refine .inr ⟨if b = a then 1#1 else 0#1, h, ?_, ?_⟩
    · rw [decodePair_valid h, fmNext_of_valid h]
    · rw [decodeStep_valid h, fmNext_of_valid h]

/-- One step that answers a next state: nothing was presented, or the word is taken and held, or its instruction ran. -/
theorem step_cases {s t : State} (h : step s = .next t) :
    (s.input = [] ∧ t = s) ∨ ∃ w ws, s.input = w :: ws ∧
      (t = setInput ws s ∨ ∃ i, decode w = .ok i ∧ ExecCase (setInput ws s) i t) := by
  unfold step at h
  cases hi : s.input with
  | nil =>
    simp only [fetch, hi, Host.Outcome.next.injEq] at h
    exact .inl ⟨rfl, h.symm⟩
  | cons w ws =>
    simp only [fetch, hi] at h
    refine .inr ⟨w, ws, rfl, ?_⟩
    cases hd : decode w with
    | ok i =>
      simp only [hd] at h
      exact .inr ⟨i, rfl, exec_cases h⟩
    | error e =>
      simp only [hd] at h
      left
      cases e <;> simp only [onNoInstr, Host.Outcome.next.injEq, reduceCtorEq] at h <;> exact h.symm

/-- The word of a host's symbol or character decodes to a host move. -/
theorem hostMove_of_decode {w : FormatWord} {i : Instr} (hw : w.format = .inSym ∨ w.format = .textIn)
    (h : decode w = .ok i) : hostMove i = true := by
  cases w with
  | inSym w =>
    simp only [decode, decodeInSym] at h
    split_ifs at h <;> cases h <;> rfl
  | textIn c =>
    simp only [decode, decodeText] at h
    split_ifs at h <;> cases h <;> rfl
  | fmPair w => simp [FormatWord.format] at hw
  | syncMarker w p => simp [FormatWord.format] at hw
  | frame w q => simp [FormatWord.format] at hw
  | event c f => simp [FormatWord.format] at hw
  | tapRecord b => simp [FormatWord.format] at hw

end Sys2Proof.Machine
end

