-- ==== Sys2Proof/Laws/Trace.lean ====
section
/-! SUPPORT. How the readings of a trace and of a Record sequence distribute over lists. -/

namespace Sys2Proof

open Sys2Proof.Machine

@[simp] theorem traceBits_nil : traceBits [] = [] := rfl

@[simp] theorem traceErrs_nil : traceErrs [] = [] := rfl

@[simp] theorem traceBits_append (a b : List Event) : traceBits (a ++ b) = traceBits a ++ traceBits b := by
  simp [traceBits]

@[simp] theorem traceErrs_append (a b : List Event) : traceErrs (a ++ b) = traceErrs a ++ traceErrs b := by
  simp [traceErrs]

@[simp] theorem traceBits_lbit (p : Nat) (d : Bit) (l : List Event) : traceBits (.lbit p d :: l) = d :: traceBits l := rfl

@[simp] theorem traceErrs_pairErr (k : Nat) (a b : Bit) (l : List Event) :
    traceErrs (.pairErr k a b :: l) = (k, a, b) :: traceErrs l := rfl

/-- Only LBIT events carry LogicalBits. -/
@[simp] theorem traceBits_pairErr (k : Nat) (a b : Bit) (l : List Event) :
    traceBits (.pairErr k a b :: l) = traceBits l := rfl

/-- Only PAIR_ERR events carry invalid pairs. -/
@[simp] theorem traceErrs_lbit (p : Nat) (d : Bit) (l : List Event) : traceErrs (.lbit p d :: l) = traceErrs l := rfl

theorem traceBits_classifier {e : Event} (h : isDecoderEvent e = false) (l : List Event) :
    traceBits (e :: l) = traceBits l := by cases e <;> first | rfl | cases h

theorem traceErrs_classifier {e : Event} (h : isDecoderEvent e = false) (l : List Event) :
    traceErrs (e :: l) = traceErrs l := by cases e <;> first | rfl | cases h

@[simp] theorem tapStream_nil : tapStream [] = [] := rfl

@[simp] theorem tapStream_append (a b : List Record) : tapStream (a ++ b) = tapStream a ++ tapStream b := by
  simp [tapStream]

@[simp] theorem decoderEvents_append (a b : List Event) :
    decoderEvents (a ++ b) = decoderEvents a ++ decoderEvents b := by simp [decoderEvents]

@[simp] theorem classifierEvents_append (a b : List Event) :
    classifierEvents (a ++ b) = classifierEvents a ++ classifierEvents b := by simp [classifierEvents]

/-- Feeding two lists is feeding one after the other. -/
theorem feed_append (is js : List Instr) (s : State) :
    feed (is ++ js) s = (match feed is s with
      | .next t => feed js t
      | .fault r => .fault r
      | .refused r => .refused r) := by
  induction is generalizing s with
  | nil => rfl
  | cons i is ih =>
    simp only [List.cons_append, feed]
    cases exec i s with
    | next t => exact ih t
    | fault r => rfl
    | refused r => rfl

end Sys2Proof
end

