-- ==== Sys2Proof/Laws/Observation.lean ====
section
/-! SUPPORT. What the step function of 40 R104 answers, and how the reading of a trace per kind distributes over lists. -/

namespace Sys2Proof.Machine

open Sys2Proof

@[simp] theorem traceStart_reset (s : State) : traceStart .reset s = [] := rfl

theorem traceStart_of_ne {i : Instr} (h : i ≠ .reset) (s : State) : traceStart i s = s.trace := if_neg h

/-- A next state without a fault is a normal answer. -/
theorem answer_next {i : Instr} {s t : State} (h : exec i s = .next t) (hf : t.fault = none) :
    answer i s = .next t (t.trace.drop (traceStart i s).length) := by simp [answer, h, hf]

/-- A next state in which FAULT was set by the step is a fault. -/
theorem answer_fault {i : Instr} {s t : State} {r : FaultReason} (h : exec i s = .next t) (hs : s.fault = none)
    (hf : t.fault = some r) : answer i s = .fault r t := by simp [answer, h, hf, hs]

/-- A normal answer comes of a next state without a fault. -/
theorem answer_next_inv {i : Instr} {s t : State} {evs : List Event} (h : answer i s = .next t evs) :
    exec i s = .next t ∧ t.fault = none ∧ evs = t.trace.drop (traceStart i s).length := by
  unfold answer at h
  cases hx : exec i s with
  | next u =>
    simp only [hx] at h
    cases hf : u.fault with
    | none =>
      simp only [hf, StepAnswer.next.injEq] at h
      obtain ⟨rfl, rfl⟩ := h
      exact ⟨rfl, hf, rfl⟩
    | some r =>
      simp only [hf] at h
      split at h <;> cases h
  | fault r => simp [hx] at h
  | refused r => simp [hx] at h

@[simp] theorem eventsOfKind_nil (k : EventKind) : eventsOfKind k [] = [] := rfl

@[simp] theorem eventsOfKind_append (k : EventKind) (a b : List Event) :
    eventsOfKind k (a ++ b) = eventsOfKind k a ++ eventsOfKind k b := by simp [eventsOfKind]

theorem eventsOfKind_cons_same {k : EventKind} {e : Event} (h : eventKind e = k) (l : List Event) :
    eventsOfKind k (e :: l) = e :: eventsOfKind k l := by simp [eventsOfKind, h]

theorem eventsOfKind_cons_other {k : EventKind} {e : Event} (h : eventKind e ≠ k) (l : List Event) :
    eventsOfKind k (e :: l) = eventsOfKind k l := by simp [eventsOfKind, h]

/-- Every kind is one of the listed kinds. -/
theorem mem_eventKinds (k : EventKind) : k ∈ eventKinds := by cases k <;> decide

end Sys2Proof.Machine
end

