-- ==== Sys2Proof/Laws/PerInstr.lean ====
section
/-! SUPPORT. The per-instruction family EncodedFormat: an instruction's word is a word of the format whose table section its
row stands in (30_encoding R70). -/

namespace Sys2Proof.Laws.EncodedFormat

open Sys2Proof

/-- The format of the encoded word is the row's format. -/
def Statement (i : Instr) : Prop := (encode i).format = i.format

theorem sample (b : Bit) : Statement (.sample b) := rfl

theorem eos : Statement .eos := rfl

theorem reset : Statement .reset := rfl

theorem fmLow11 : Statement .fmLow11 := rfl

theorem fmLow10 : Statement .fmLow10 := rfl

theorem fmHigh00 : Statement .fmHigh00 := rfl

theorem fmHigh01 : Statement .fmHigh01 := rfl

theorem fmLowInvalid (b : Bit) : Statement (.fmLowInvalid b) := rfl

theorem fmHighInvalid (b : Bit) : Statement (.fmHighInvalid b) := rfl

theorem syncMarker (first : Nat) : Statement (.syncMarker first) := rfl

theorem frameEnd (q : Nat) : Statement (.frameEnd q) := rfl

theorem frameData (v : Byte) (q : Nat) : Statement (.frameData v q) := rfl

theorem frameViolation (w : FrameWord) (q : Nat) : Statement (.frameViolation w q) := rfl

theorem text0 : Statement .text0 := rfl

theorem text1 : Statement .text1 := rfl

theorem textOther (c : Byte) : Statement (.textOther c) := rfl

theorem evLbit (p : Nat) (d : Bit) : Statement (.evLbit p d) := rfl

theorem evPairErr (k : Nat) (a b : Bit) : Statement (.evPairErr k a b) := rfl

theorem evMarker (p : Nat) : Statement (.evMarker p) := rfl

theorem evFrameByte (p : Nat) (v : Byte) : Statement (.evFrameByte p v) := rfl

theorem evFrameEnd (p : Nat) : Statement (.evFrameEnd p) := rfl

theorem evSyncViol (p : Nat) (t0 t1 t2 : Bit) : Statement (.evSyncViol p t0 t1 t2) := rfl

theorem evIncomplete (f : Nat) : Statement (.evIncomplete f) := rfl

theorem evRecord (n : Nat) : Statement (.evRecord n) := rfl

theorem evDone : Statement .evDone := rfl

theorem tapRecord (payload : List Byte) : Statement (.tapRecord payload) := rfl

end Sys2Proof.Laws.EncodedFormat
end

