-- ==== Sys2Proof/Tests/Slice0.lean ====
section
/-! SUPPORT. The model's own tests: the well-formedness checks, words written out from the tables of 30_encoding, one-step
tests whose expected values are those of 95_test_vectors (cited by their number) or of the rule named, and for every
obligation with hypotheses a named witness that meets them. -/

namespace Sys2Proof.Tests

open Sys2Proof Sys2Proof.Machine Sys2Proof.Claims

/-! ### Small states and readers of an outcome -/

/-- The next state of an outcome, if it is one. -/
def nextOf (o : Host.Outcome State Fault Refusal) : Option State :=
  match o with
  | .next s => some s
  | .fault _ => none
  | .refused _ => none

/-- The refusal of an outcome, if it is one. -/
def refusalOf (o : Host.Outcome State Fault Refusal) : Option Refusal :=
  match o with
  | .next _ => none
  | .fault _ => none
  | .refused r => some r

/-- The fault of an outcome, if it is one. -/
def faultOf (o : Host.Outcome State Fault Refusal) : Option Fault :=
  match o with
  | .next _ => none
  | .fault f => some f
  | .refused _ => none

/-- A SEARCHING state after `n` valid pairs. -/
def searchAt (l : LineState) (w : WindowWord) (f : BitVec 2) (n : Nat) : State :=
  { State.reset with ls := l, win := w, wfill := f, nCh := 2 * n, nPair := n, nLb := n }

/-- An IN_RECORD state after `n` valid pairs. -/
def recordAt (l : LineState) (w : FrameWord) (f : BitVec 4) (r : Record) (n : Nat) : State :=
  { State.reset with ls := l, fsm := .inRecord, frm := w, ffill := f, rcd := r, nCh := 2 * n, nPair := n, nLb := n }

/-- The same state with the first sample of a pair held. -/
def holding (b : Bit) (s : State) : State := { s with hv := 1#1, ha := b, nCh := s.nCh + 1 }

/-- The state in which RESET, EOS leave the block. -/
def ended : State := { State.reset with fsm := .done, trace := [.done] }

/-- A faulted state. -/
def faulted : State := { State.reset with fault := some .recordOverflow }

/-- A state that no rule reaches: the fourth FSM encoding (30 R79). -/
def outside : State := { State.reset with fsm := .unused }

/-! ### Well-formedness: each check refuses a term -/

theorem test_wf_violation_not_end : (Instr.frameViolation 0x7FF#11 0).wf = false := by decide

theorem test_wf_violation_not_data : (Instr.frameViolation 0x241#11 0).wf = false := by decide

theorem test_wf_text_other_not_zero : (Instr.textOther 0x30#8).wf = false := by decide

theorem test_wf_text_other_not_one : (Instr.textOther 0x31#8).wf = false := by decide

theorem test_wf_incomplete_at_most_ten : (Instr.evIncomplete 11).wf = false := by decide

theorem test_wf_record_not_empty : (Instr.evRecord 0).wf = false := by decide

theorem test_wf_tap_not_empty : (Instr.tapRecord []).wf = false := by decide

theorem test_wf_accepts :
    (Instr.frameViolation 0x7FE#11 3).wf = true ∧ (Instr.textOther 0x32#8).wf = true ∧ (Instr.evIncomplete 10).wf = true ∧
      (Instr.evRecord 1).wf = true ∧ (Instr.tapRecord [0x41#8]).wf = true := by decide

/-! ### Decoding: words written out from 30_encoding R70 to R78 -/

/-- rst, in_eos, in_valid, in_bit (30 R70). -/
theorem test_decode_in_sym :
    decode (.inSym 0b0010#4) = .ok (.sample 0#1) ∧ decode (.inSym 0b0011#4) = .ok (.sample 1#1) ∧
      decode (.inSym 0b0100#4) = .ok .eos ∧ decode (.inSym 0b0101#4) = .ok .eos ∧
      decode (.inSym 0b1000#4) = .ok .reset ∧ decode (.inSym 0b1001#4) = .ok .reset := by decide

/-- All of bits 3 to 1 clear is no symbol; two or more set is no host move (30 R70). -/
theorem test_decode_in_sym_no_row :
    decode (.inSym 0b0000#4) = .error .noSymbol ∧ decode (.inSym 0b0001#4) = .error .noSymbol ∧
      decode (.inSym 0b0110#4) = .error .severalSymbols ∧ decode (.inSym 0b1010#4) = .error .severalSymbols ∧
      decode (.inSym 0b1111#4) = .error .severalSymbols := by decide

/-- The eight words s a b (30 R71). -/
theorem test_decode_fm_pair :
    decode (.fmPair 0b011#3) = .ok .fmLow11 ∧ decode (.fmPair 0b010#3) = .ok .fmLow10 ∧
      decode (.fmPair 0b100#3) = .ok .fmHigh00 ∧ decode (.fmPair 0b101#3) = .ok .fmHigh01 ∧
      decode (.fmPair 0b000#3) = .ok (.fmLowInvalid 0#1) ∧ decode (.fmPair 0b001#3) = .ok (.fmLowInvalid 1#1) ∧
      decode (.fmPair 0b110#3) = .ok (.fmHighInvalid 0#1) ∧ decode (.fmPair 0b111#3) = .ok (.fmHighInvalid 1#1) := by
  decide

/-- The window 0, 1, 0 (30 R73). -/
theorem test_decode_sync_marker :
    decode (.syncMarker 0b010#3 7) = .ok (.syncMarker 7) ∧ decode (.syncMarker 0b101#3 7) = .error .notMarker := by decide

/-- V4.1, V4.2, V4.3, V4.4, V4.5, V4.10: the words W of 30 R74, R75. -/
theorem test_decode_frame :
    decode (.frame 0x241#11 3) = .ok (.frameData 0x41#8 3) ∧ decode (.frame 0x200#11 3) = .ok (.frameData 0x00#8 3) ∧
      decode (.frame 0x2FF#11 3) = .ok (.frameData 0xFF#8 3) ∧ decode (.frame 0x7FF#11 3) = .ok (.frameEnd 3) ∧
      decode (.frame 0x341#11 3) = .ok (.frameViolation 0x341#11 3) ∧
      decode (.frame 0x7FE#11 3) = .ok (.frameViolation 0x7FE#11 3) := by decide

/-- The characters of 60 R220. -/
theorem test_decode_text :
    decode (.textIn 0x30#8) = .ok .text0 ∧ decode (.textIn 0x31#8) = .ok .text1 ∧
      decode (.textIn 0x0A#8) = .ok (.textOther 0x0A#8) ∧ decode (.textIn 0xFF#8) = .ok (.textOther 0xFF#8) := by decide

/-- The codes 0x01 to 0x09 with their fields (30 R78). -/
theorem test_decode_event :
    decode (.event 0x01#8 [5, 1]) = .ok (.evLbit 5 1#1) ∧ decode (.event 0x02#8 [7, 1, 0]) = .ok (.evPairErr 7 1#1 0#1) ∧
      decode (.event 0x03#8 [4]) = .ok (.evMarker 4) ∧ decode (.event 0x04#8 [3, 65]) = .ok (.evFrameByte 3 0x41#8) ∧
      decode (.event 0x05#8 [14]) = .ok (.evFrameEnd 14) ∧
      decode (.event 0x06#8 [3, 1, 1, 0]) = .ok (.evSyncViol 3 1#1 1#1 0#1) ∧
      decode (.event 0x07#8 [10]) = .ok (.evIncomplete 10) ∧ decode (.event 0x08#8 [1]) = .ok (.evRecord 1) ∧
      decode (.event 0x09#8 []) = .ok .evDone := by decide

/-- Codes and fields that are none of R78's. -/
theorem test_decode_event_no_row :
    decode (.event 0x00#8 []) = .error .unknownEvent ∧ decode (.event 0x0A#8 []) = .error .unknownEvent ∧
      decode (.event 0x01#8 [5, 2]) = .error .badEventFields ∧ decode (.event 0x07#8 [11]) = .error .badEventFields ∧
      decode (.event 0x08#8 [0]) = .error .badEventFields := by decide

/-- V10.3: the container of 30 R77 for [0x01, 0x02, 0x03]; a length of 0 or an unequal trailer is none. -/
theorem test_decode_tap :
    decode (.tapRecord [3#8, 0#8, 0#8, 0#8, 1#8, 2#8, 3#8, 3#8, 0#8, 0#8, 0#8]) = .ok (.tapRecord [1#8, 2#8, 3#8]) ∧
      decode (.tapRecord [0#8, 0#8, 0#8, 0#8, 0#8, 0#8, 0#8, 0#8]) = .error .badTapRecord ∧
      decode (.tapRecord [1#8, 0#8, 0#8, 0#8, 1#8, 2#8, 0#8, 0#8, 0#8]) = .error .badTapRecord := by decide

/-- The words of opcode_table.json, read as the host numbers them. -/
theorem test_table_words :
    decodeTableWord 8 2 = some (.sample 0#1) ∧ decodeTableWord 8 4 = some .eos ∧ decodeTableWord 8 8 = some .reset ∧
      decodeTableWord 3 3 = some .fmLow11 ∧ decodeTableWord 8 6 = some (.fmHighInvalid 0#1) ∧
      decodeTableWord 16 0x7FF = some (.frameEnd 0) ∧ decodeTableWord 16 0x200 = some (.frameData 0#8 0) ∧
      decodeTableWord 16 0 = some (.frameViolation 0#11 0) ∧ decodeTableWord 8 0x30 = some .text0 ∧
      decodeTableWord 8 0x31 = some .text1 ∧ decodeTableWord 4 6 = none := by decide

/-! ### One step of each instruction -/

/-- 40 R100's example: SAMPLE(1) from reset. -/
theorem test_sample_latches :
    (nextOf (exec (.sample 1#1) State.reset)).map (fun t => (t.hv, t.ha, t.nCh, t.trace)) = some (1#1, 1#1, 1, []) := by
  decide

/-- 40 R100's example, the SAMPLE(1) after it: LBIT(0,1), LS HIGH. -/
theorem test_sample_completes :
    (nextOf (exec (.sample 1#1) (holding 1#1 State.reset))).map (fun t => (t.ls, t.nPair, t.nLb, t.hv, t.trace))
      = some (.high, 1, 1, 0#1, [.lbit 0 1#1]) := by decide

/-- V7.1 (§8 Scenario C): the pair (0,1) from LOW. -/
theorem test_text_invalid_pair :
    (nextOf (exec .text1 (holding 0#1 State.reset))).map (fun t => (t.ls, t.nErr, t.nLb, t.trace))
      = some (.low, 1, 0, [.pairErr 0 0#1 1#1]) := by decide

/-- 60 R220: the character '0' is SAMPLE(0). -/
theorem test_text_zero :
    (nextOf (exec .text0 State.reset)).map (fun t => (t.hv, t.ha, t.nCh)) = some (1#1, 0#1, 1) := by decide

/-- 60 R220: another character does not affect pairing. -/
theorem test_text_other :
    (nextOf (exec (.textOther 0x20#8) (holding 1#1 State.reset))) = some (holding 1#1 State.reset) := by decide

/-- V6.4: EOS with an odd sample held. -/
theorem test_eos_odd_sample :
    (nextOf (exec .eos (holding 1#1 State.reset))).map (fun t => (t.fsm, t.hv, t.ha, t.nCh, t.trace))
      = some (.done, 0#1, 0#1, 1, [.done]) := by decide

/-- 40 R102's example: EOS with the byte 0x41 and 10 further 1-bits. -/
theorem test_eos_partial_frame :
    (nextOf (exec .eos (recordAt .low 0x3FF#11 10#4 [0x41#8] 24))).map (fun t => (t.trace, t.sink, t.frm, t.ffill))
      = some ([.incomplete 10, .record 1, .done], [[0x41#8]], 0#11, 0#4) := by decide

/-- V11.2: a second EOS. -/
theorem test_eos_after_done :
    (nextOf (exec .eos ended)).map (fun t => (t.fault, t.trace)) = some (some .protocolViolation, [.done]) := by decide

/-- V11.3: RESET after a fault. -/
theorem test_reset_after_fault : nextOf (exec .reset faulted) = some State.reset := by decide

/-- 70 R250: a RESET before DONE drops the open Record without a flush. -/
theorem test_reset_drops_record :
    (nextOf (exec .reset (recordAt .high 0#11 0#4 [0x41#8] 14))).map (fun t => (t.rcd, t.sink, t.fsm, t.ls))
      = some ([], [], .searching, .low) := by decide

/-- V1.4. -/
theorem test_fm_low_11 :
    (nextOf (exec .fmLow11 State.reset)).map (fun t => (t.ls, t.trace)) = some (.high, [.lbit 0 1#1]) := by decide

/-- V1.3. -/
theorem test_fm_low_10 :
    (nextOf (exec .fmLow10 State.reset)).map (fun t => (t.ls, t.trace)) = some (.low, [.lbit 0 0#1]) := by decide

/-- V1.5. -/
theorem test_fm_high_00 :
    (nextOf (exec .fmHigh00 (searchAt .high 0#3 0#2 0))).map (fun t => (t.ls, t.trace)) = some (.low, [.lbit 0 1#1]) := by
  decide

/-- V1.6. -/
theorem test_fm_high_01 :
    (nextOf (exec .fmHigh01 (searchAt .high 0#3 0#2 0))).map (fun t => (t.ls, t.trace)) = some (.high, [.lbit 0 0#1]) := by
  decide

/-- V1.1. -/
theorem test_fm_low_invalid :
    (nextOf (exec (.fmLowInvalid 0#1) State.reset)).map (fun t => (t.ls, t.nErr, t.nLb, t.trace))
      = some (.low, 1, 0, [.pairErr 0 0#1 0#1]) := by decide

/-- V1.7. -/
theorem test_fm_high_invalid :
    (nextOf (exec (.fmHighInvalid 0#1) (searchAt .high 0#3 0#2 0))).map (fun t => (t.ls, t.nErr, t.trace))
      = some (.high, 1, [.pairErr 0 1#1 0#1]) := by decide

/-- P1: bit 2 of `010` gives MARKER(0). -/
theorem test_bit_opens_record :
    (nextOf (exec .fmHigh01 (searchAt .high 0b001#3 2#2 2))).map (fun t => (t.fsm, t.nMark, t.win, t.wfill, t.trace))
      = some (.inRecord, 1, 0#3, 0#2, [.lbit 2 0#1, .marker 0]) := by decide

/-- 42 R143: the eleventh bit; with the bits of 0x41 and trailer 01 held, the last 0 gives FRAME_BYTE(3, 0x41) (P1). -/
theorem test_bit_completes_frame :
    (nextOf (exec .fmLow10 (recordAt .low 0x241#11 10#4 [] 13))).map (fun t => (t.rcd, t.frm, t.ffill, t.trace))
      = some ([0x41#8], 0#11, 0#4, [.lbit 13 0#1, .frameByte 3 0x41#8]) := by decide

/-- V12.2's window 101, and the marker of V3.2 at index 1. -/
theorem test_sync_marker :
    nextOf (exec (.syncMarker 0) (searchAt .high 0b101#3 3#2 3)) = some (searchAt .high 0b101#3 3#2 3) ∧
      (nextOf (exec (.syncMarker 1) (searchAt .high 0b010#3 3#2 4))).map (fun t => (t.fsm, t.nMark, t.trace))
        = some (.inRecord, 1, [.marker 1]) := by decide

/-- 42 R146's example: MARK END gives FRAME_END(3) and no RECORD. -/
theorem test_frame_end_empty :
    (nextOf (exec (.frameEnd 3) (recordAt .low 0#11 0#4 [] 14))).map (fun t => (t.fsm, t.nFrame, t.nRec, t.trace))
      = some (.searching, 1, 0, [.frameEnd 3]) := by decide

/-- P1's END Frame: FRAME_END(14), RECORD(1), the Record at the sink and its TAP bytes. -/
theorem test_frame_end_record :
    (nextOf (exec (.frameEnd 14) (recordAt .low 0#11 0#4 [0x41#8] 25))).map (fun t => (t.sink, t.tap, t.trace))
      = some ([[0x41#8]], [1#8, 0#8, 0#8, 0#8, 0x41#8, 1#8, 0#8, 0#8, 0#8], [.frameEnd 14, .record 1]) := by decide

/-- V4.3: byte 0xFF, no end marker. -/
theorem test_frame_data :
    (nextOf (exec (.frameData 0xFF#8 3) (recordAt .low 0#11 0#4 [] 14))).map (fun t => (t.fsm, t.rcd, t.trace))
      = some (.inRecord, [0xFF#8], [.frameByte 3 0xFF#8]) := by decide

/-- V9.1: the third byte with rec_cap = 2. -/
theorem test_frame_data_overflow :
    (nextOf (exec (.frameData 3#8 25)
        { recordAt .low 0#11 0#4 [1#8, 2#8] 36 with cfg := { Cfg.default with recCap := 2 } })).map
      (fun t => (t.rcd, t.fault, t.nFrame, t.trace)) = some ([1#8, 2#8], some .recordOverflow, 1, [.frameByte 25 3#8]) := by
  decide

/-- V5.3: the bytes before a violation are emitted. -/
theorem test_frame_violation :
    (nextOf (exec (.frameViolation 0x355#11 14) (recordAt .low 0#11 0#4 [0xAA#8] 25))).map
      (fun t => (t.fsm, t.sink, t.rcd, t.trace))
      = some (.searching, [[0xAA#8]], [], [.syncViol 14 1#1 1#1 0#1, .record 1]) := by decide

/-- V4.7: the trailer (0,1,1) of 0x6FF, first bit first. -/
theorem test_frame_violation_trailer :
    (nextOf (exec (.frameViolation 0x6FF#11 3) (recordAt .low 0#11 0#4 [] 14))).map (fun t => t.trace)
      = some [.syncViol 3 0#1 1#1 1#1] := by decide

/-- 30 R78: each event row's event. -/
theorem test_event_rows :
    (nextOf (exec (.evLbit 5 1#1) State.reset)).map (fun t => t.trace) = some [.lbit 5 1#1] ∧
      (nextOf (exec (.evPairErr 7 1#1 0#1) State.reset)).map (fun t => t.trace) = some [.pairErr 7 1#1 0#1] ∧
      (nextOf (exec (.evMarker 4) State.reset)).map (fun t => t.trace) = some [.marker 4] ∧
      (nextOf (exec (.evFrameByte 3 0x41#8) State.reset)).map (fun t => t.trace) = some [.frameByte 3 0x41#8] ∧
      (nextOf (exec (.evFrameEnd 14) State.reset)).map (fun t => t.trace) = some [.frameEnd 14] ∧
      (nextOf (exec (.evSyncViol 3 1#1 1#1 0#1) State.reset)).map (fun t => t.trace) = some [.syncViol 3 1#1 1#1 0#1] ∧
      (nextOf (exec (.evIncomplete 10) State.reset)).map (fun t => t.trace) = some [.incomplete 10] ∧
      (nextOf (exec (.evRecord 1) State.reset)).map (fun t => t.trace) = some [.record 1] ∧
      (nextOf (exec .evDone State.reset)).map (fun t => t.trace) = some [.done] := by decide

/-- V10.3. -/
theorem test_tap_record :
    (nextOf (exec (.tapRecord [1#8, 2#8, 3#8]) State.reset)).map (fun t => t.tap)
      = some [3#8, 0#8, 0#8, 0#8, 1#8, 2#8, 3#8, 3#8, 0#8, 0#8, 0#8] := by decide

/-- V10.7: nothing for an empty Record. -/
theorem test_tap_empty : nextOf (exec (.tapRecord []) State.reset) = some State.reset := by decide

/-- V10.6: the length field of n = 0x01020304, without the payload. -/
theorem test_tap_length_bytes : le32 0x01020304 = [0x04#8, 0x03#8, 0x02#8, 0x01#8] := by decide

/-- V13.1: the text '01 10\n11'. -/
theorem test_text_filter :
    textSamples [0x30#8, 0x31#8, 0x20#8, 0x31#8, 0x30#8, 0x0A#8, 0x31#8, 0x31#8] = [0#1, 1#1, 1#1, 0#1, 1#1, 1#1] := by
  decide

/-- V12.1: STATUS, FRAME and CFG. -/
theorem test_status_view :
    statusReg (holding 1#1 (recordAt .low 0x001#11 5#4 [] 8)) 1#8 = 0x1419 ∧
      statusReg (holding 1#1 (recordAt .low 0x001#11 5#4 [] 8)) 2#8 = 0x001 ∧
      statusReg (holding 1#1 (recordAt .low 0x001#11 5#4 [] 8)) 0#8 = 0x2 := by decide

/-- V12.2. -/
theorem test_status_window : statusReg (searchAt .low 0b101#3 3#2 3) 1#8 = 0x2E0 := by decide

/-- V12.4. -/
theorem test_status_fault :
    statusReg { recordAt .low 0#11 0#4 [1#8, 2#8] 36 with fault := some .recordOverflow } 1#8 = 0x20001 := by decide

/-- V2.6: FM(HIGH, lb"10000010"). -/
theorem test_fm_encode :
    fmEncode .high [1#1, 0#1, 0#1, 0#1, 0#1, 0#1, 1#1, 0#1]
      = [0#1, 0#1, 1#1, 0#1, 1#1, 0#1, 1#1, 0#1, 1#1, 0#1, 1#1, 0#1, 1#1, 1#1, 0#1, 1#1] := by decide

/-- V7.2: two invalid pairs in a row from HIGH. -/
theorem test_decode_seq_errors :
    decodeSeq [1#1, 0#1, 1#1, 1#1, 0#1, 0#1] .high
      = { bits := [1#1], line := .low, errs := [(0, 1#1, 0#1), (1, 1#1, 1#1)] } := by decide

/-- V3.2: the marker of `0010`. -/
theorem test_classify_seq_overlap :
    classifySeq [0#1, 0#1, 1#1, 0#1] = { out := [], events := [.marker 1, .incomplete 0] } := by decide

/-- The step takes the next word and runs it (10 R21, R23). -/
theorem test_step_takes_word :
    (nextOf (step { State.reset with input := [.inSym 0b0011#4, .inSym 0b0100#4] })).map (fun t => (t.ha, t.input))
      = some (1#1, [.inSym 0b0100#4]) := by decide

/-- 30 R70: no symbol, no step. -/
theorem test_step_idle_word :
    nextOf (step { State.reset with input := [.inSym 0b0001#4] }) = some State.reset := by decide

/-! ### Witnesses: each obligation's hypotheses hold somewhere -/

theorem witness_SampleLatchesFirstOfPair :
    sampleOf (.sample 1#1) = some 1#1 ∧ sampleOf .text0 = some 0#1 ∧ sampleOf .text1 = some 1#1 ∧
      State.reset.fault = none ∧ Reachable State.reset ∧ State.reset.fsm ≠ .done ∧ State.reset.hv = 0#1 := by decide

theorem witness_SampleCompletingInvalidPairIsSkipped :
    sampleOf .text1 = some 1#1 ∧ (holding 0#1 State.reset).fault = none ∧ Reachable (holding 0#1 State.reset) ∧
      (holding 0#1 State.reset).fsm ≠ .done ∧ (holding 0#1 State.reset).hv = 1#1 ∧
      (holding 0#1 State.reset).ha = lineLevel (holding 0#1 State.reset).ls := by decide

theorem witness_SampleCompletingValidPairYieldsBit :
    sampleOf (.sample 0#1) = some 0#1 ∧ (holding 1#1 State.reset).fault = none ∧ Reachable (holding 1#1 State.reset) ∧
      (holding 1#1 State.reset).fsm ≠ .done ∧ (holding 1#1 State.reset).hv = 1#1 ∧
      (holding 1#1 State.reset).ha ≠ lineLevel (holding 1#1 State.reset).ls := by decide

theorem witness_SampleRunsThePairRowOfItsWord :
    sampleOf .text0 = some 0#1 ∧ (holding 1#1 (recordAt .low 0x3FF#11 10#4 [] 13)).fault = none ∧
      Reachable (holding 1#1 (recordAt .low 0x3FF#11 10#4 [] 13)) ∧
      (holding 1#1 (recordAt .low 0x3FF#11 10#4 [] 13)).fsm ≠ .done ∧
      (holding 1#1 (recordAt .low 0x3FF#11 10#4 [] 13)).hv = 1#1 := by decide

theorem witness_EosEndsTheRun :
    (State.reset.fault = none ∧ Reachable State.reset ∧ State.reset.fsm = .searching) ∧
      ((recordAt .low 0x3FF#11 10#4 [0x41#8] 24).fault = none ∧ Reachable (recordAt .low 0x3FF#11 10#4 [0x41#8] 24) ∧
        (recordAt .low 0x3FF#11 10#4 [0x41#8] 24).fsm = .inRecord) ∧
      ((recordAt .low 0#11 0#4 [] 3).fault = none ∧ Reachable (recordAt .low 0#11 0#4 [] 3) ∧
        (recordAt .low 0#11 0#4 [] 3).fsm = .inRecord) := by decide

theorem witness_ValidPairRowYieldsItsBit :
    State.reset.fault = none ∧ RegsOk State.reset ∧ State.reset.fsm ≠ .done ∧ State.reset.ls = .low ∧
      (recordAt .high 0#11 10#4 [] 13).fault = none ∧ RegsOk (recordAt .high 0#11 10#4 [] 13) ∧
      (recordAt .high 0#11 10#4 [] 13).fsm ≠ .done ∧ (recordAt .high 0#11 10#4 [] 13).ls = .high := by decide

theorem witness_InvalidPairRowChangesOnlyItsCounters :
    (searchAt .high 0b001#3 2#2 2).fault = none ∧ RegsOk (searchAt .high 0b001#3 2#2 2) ∧
      (searchAt .high 0b001#3 2#2 2).fsm ≠ .done ∧ (searchAt .high 0b001#3 2#2 2).ls = .high := by decide

/-- One state whose next 0 completes the marker, at the least position, and one whose window stays short. -/
theorem witness_BitWhileSearchingScansForTheMarker :
    ((searchAt .high 0b001#3 2#2 2).fault = none ∧ RegsOk (searchAt .high 0b001#3 2#2 2) ∧
      PositionsOk (searchAt .high 0b001#3 2#2 2) ∧
      (searchAt .high 0b001#3 2#2 2).fsm = .searching ∧ (searchAt .high 0b001#3 2#2 2).ls = .high ∧
      fillPush 2#2 = 3#2 ∧ windowPush 0b001#3 0#1 = 0b010#3) ∧
    (State.reset.fault = none ∧ RegsOk State.reset ∧ PositionsOk State.reset ∧ State.reset.fsm = .searching ∧
      State.reset.ls = .low ∧ fillPush 0#2 ≠ 3#2) := by
  unfold PositionsOk; decide

theorem witness_BitInRecordFillsTheFrame :
    ((recordAt .low 0#11 9#4 [] 12).fault = none ∧ RegsOk (recordAt .low 0#11 9#4 [] 12) ∧
      PositionsOk (recordAt .low 0#11 9#4 [] 12) ∧
      (recordAt .low 0#11 9#4 [] 12).fsm = .inRecord ∧ (recordAt .low 0#11 9#4 [] 12).ls = .low ∧
      (recordAt .low 0#11 9#4 [] 12).ffill.toNat < 10) ∧
    ((recordAt .high 0#11 10#4 [] 13).fault = none ∧ RegsOk (recordAt .high 0#11 10#4 [] 13) ∧
      PositionsOk (recordAt .high 0#11 10#4 [] 13) ∧
      (recordAt .high 0#11 10#4 [] 13).fsm = .inRecord ∧ (recordAt .high 0#11 10#4 [] 13).ls = .high ∧
      (recordAt .high 0#11 10#4 [] 13).ffill = 10#4) := by
  unfold PositionsOk; decide

theorem witness_FrameBitWriteSetsOneBit :
    (10 < 11 ∧ 10 < 11) ∧ frameBit (frameSet 0#11 10 1#1) 10 = 1#1 ∧ frameBit (frameSet 0x7FF#11 0 0#1) 1 = 1#1 := by decide

/-- A window that matches, one that does not, and IN_RECORD. -/
theorem witness_MarkerRowOpensARecord :
    ((searchAt .high 0b010#3 3#2 4).fault = none ∧ RegsOk (searchAt .high 0b010#3 3#2 4)) ∧
      ((searchAt .high 0b010#3 2#2 2).fault = none ∧ RegsOk (searchAt .high 0b010#3 2#2 2)) ∧
      ((recordAt .low 0#11 0#4 [] 3).fault = none ∧ RegsOk (recordAt .low 0#11 0#4 [] 3)) := by decide

theorem witness_EndFrameFlushesAndSearches :
    ((recordAt .low 0#11 0#4 [0x41#8] 25).fault = none ∧ RegsOk (recordAt .low 0#11 0#4 [0x41#8] 25) ∧
      (recordAt .low 0#11 0#4 [0x41#8] 25).fsm = .inRecord) ∧
    ((recordAt .low 0#11 0#4 [] 14).fault = none ∧ RegsOk (recordAt .low 0#11 0#4 [] 14) ∧
      (recordAt .low 0#11 0#4 [] 14).fsm = .inRecord) := by decide

theorem witness_ViolationFrameFlushesAndSearches :
    frameClass 0x7FE#11 = .violation ∧ frameClass 0x000#11 = .violation ∧
      (recordAt .low 0#11 0#4 [0x41#8] 25).fault = none ∧ RegsOk (recordAt .low 0#11 0#4 [0x41#8] 25) ∧
      (recordAt .low 0#11 0#4 [0x41#8] 25).fsm = .inRecord := by decide

/-- Without a sink, and with room (one byte below rec_cap). -/
theorem witness_DataFrameAppendsItsByte :
    (let s : State := { recordAt .low 0#11 0#4 [] 14 with cfg := { Cfg.default with sinkAttached := false } }
     s.fault = none ∧ RegsOk s ∧ s.fsm = .inRecord ∧ s.cfg.sinkAttached = false) ∧
    (let s : State := { recordAt .low 0#11 0#4 [1#8] 25 with cfg := { Cfg.default with recCap := 2 } }
     s.fault = none ∧ RegsOk s ∧ s.fsm = .inRecord ∧ s.cfg.sinkAttached = true ∧ s.rcd.length < s.cfg.recCap) := by decide

/-- Exactly full. -/
theorem witness_FullRecordRaisesOverflow :
    let s : State := { recordAt .low 0#11 0#4 [1#8, 2#8] 36 with cfg := { Cfg.default with recCap := 2 } }
    s.fault = none ∧ RegsOk s ∧ s.fsm = .inRecord ∧ s.cfg.sinkAttached = true ∧ s.rcd.length = s.cfg.recCap := by decide

theorem witness_EventRowsOnlyEmit : State.reset.fault = none ∧ eventInstr (.record 1) = .evRecord 1 := by decide

theorem witness_TapRowSerialisesTheRecord : ([0x41#8] : List Byte) ≠ [] ∧ ([] : List Byte) = [] := by decide

theorem witness_TapLengthFieldsGiveTheByteCount :
    ([0x41#8] : Record).length ≤ Config.maxRecCap ∧
      emitRecord [0x41#8] = some [1#8, 0#8, 0#8, 0#8, 0x41#8, 1#8, 0#8, 0#8, 0#8] := by decide

theorem witness_InputAfterTheEndIsAProtocolViolation :
    ended.fault = none ∧ ended.fsm = .done ∧ (sampleOf (.sample 0#1)).isSome = true ∧ Reachable ended ∧ RegsOk ended ∧
      validRow .low 0#1 = .fmLow10 ∧ invalidRow .high 1#1 = .fmHighInvalid 1#1 := by decide

theorem witness_FaultedBlockTakesNoStep :
    needsNoFault .eos = true ∧ needsNoFault (.frameData 0#8 0) = true ∧ needsNoFault .evDone = true ∧
      faulted.fault = some .recordOverflow := by decide

/-- FSM at its fourth encoding, FFILL at 11, and a counter off by one. -/
theorem witness_StatesOutsideTheInvariantFault :
    (sampleOf (.sample 1#1)).isSome = true ∧ (outside.fault = none ∧ ¬ Reachable outside ∧ ¬ RegsOk outside) ∧
      ((recordAt .low 0#11 11#4 [] 14).fault = none ∧ ¬ Reachable (recordAt .low 0#11 11#4 [] 14) ∧
        ¬ RegsOk (recordAt .low 0#11 11#4 [] 14)) ∧
      ¬ Reachable { State.reset with nErr := 1 } ∧ (Instr.syncMarker 0).format = .syncMarker := by decide

theorem witness_WordsOfAnotherStateAreRefused :
    State.reset.fault = none ∧ RegsOk State.reset ∧ State.reset.fsm ≠ .done ∧ State.reset.ls ≠ .high ∧
      State.reset.fsm ≠ .inRecord := by decide

theorem witness_MalformedInputNeverFaults :
    Cfg.default.wf = true ∧ ([0#1, 1#1, 0#1] : List Bit).length ≤ Cfg.default.recCap ∧
      ({ Cfg.default with sinkAttached := false, recCap := 1 } : Cfg).wf = true := by decide

theorem witness_NoInstructionChangesTheConfiguration : exec .eos State.reset = .next (eosAct State.reset) := rfl

theorem witness_OnlyValidPairsWriteLineState :
    exec .fmLow11 State.reset = .next (decodeStep 1#1 1#1 State.reset) ∧ Instr.fmLow11 ≠ .reset := ⟨rfl, by decide⟩

theorem witness_OutputsOnlyGrow :
    exec (.frameEnd 3) (recordAt .low 0#11 0#4 [0x41#8] 25)
      = .next (takeFrame 0x7FF#11 3 (recordAt .low 0#11 0#4 [0x41#8] 25)) ∧ Instr.frameEnd 3 ≠ .reset := ⟨rfl, by decide⟩

theorem witness_CountersAdvanceByAtMostOne :
    exec (.sample 1#1) State.reset = .next (sampleAct 1#1 State.reset) ∧ Instr.sample 1#1 ≠ .reset := ⟨rfl, by decide⟩

theorem witness_DecodeOfEncodeIsTheInstruction :
    (Instr.frameViolation 0x7FE#11 3).WellFormed ∧ (Instr.tapRecord [0x41#8]).WellFormed ∧ (Instr.evIncomplete 10).WellFormed := by
  decide

theorem witness_DecodedWordsEncodeBack :
    decode (.frame 0x341#11 3) = .ok (.frameViolation 0x341#11 3) ∧ (FormatWord.frame 0x341#11 3).format ≠ .inSym ∧
      decode (.inSym 0b0101#4) = .ok .eos := by decide

theorem witness_StepRunsTheDecodedInstruction :
    ({ State.reset with input := [.inSym 0b0011#4] } : State).input = .inSym 0b0011#4 :: [] ∧
      decode (.inSym 0b0011#4) = .ok (.sample 1#1) := by decide

/-- Nothing presented; the two wire words without a symbol; a window that is no marker; two symbols, at 6, 7 and 10. -/
theorem witness_StepWithoutASymbolHoldsTheState :
    State.reset.input = [] ∧ (0b0000#4).toNat < 2 ∧ (0b0001#4).toNat < 2 ∧ (0b101#3 : WindowWord) ≠ 0b010#3 ∧
      (0b0110#4).toNat = 6 ∧ (0b0111#4).toNat = 7 ∧ 10 ≤ (0b1010#4).toNat ∧
      ({ State.reset with input := [.inSym 0b1010#4] } : State).input = .inSym 0b1010#4 :: [] := by decide

theorem witness_PlacedTableWordRunsNext :
    decodeTableWord 16 0x241 = some (.frameData 0x41#8 0) ∧ decodeTableWord 3 4 = some .fmHigh00 := by decide

/-- A state fed by the host: an EOS waits. -/
def fed : State := { State.reset with input := [.inSym 0b0100#4] }

theorem witness_EveryStepKeepsTheRegisterInvariant : RegsOk fed ∧ step fed = .next (eosAct State.reset) := ⟨by decide, rfl⟩

theorem witness_EveryStepKeepsThePositions : PositionsOk fed ∧ step fed = .next (eosAct State.reset) :=
  ⟨by unfold PositionsOk; decide, rfl⟩

theorem witness_HostStepsKeepTheReachableInvariant :
    HostFed fed ∧ Reachable fed ∧ step fed = .next (eosAct State.reset) := ⟨by unfold HostFed; decide, by decide, rfl⟩

theorem witness_HostStepsKeepTheWindowsClean :
    HostFed fed ∧ Reachable fed ∧ WindowsClean fed ∧ step fed = .next (eosAct State.reset) :=
  ⟨by unfold HostFed; decide, by decide, by unfold WindowsClean; decide, rfl⟩

theorem witness_HostStepsKeepTheParityLaw : HostFed fed ∧ ParityLaw fed ∧ step fed = .next (eosAct State.reset) :=
  ⟨by unfold HostFed; decide, by unfold ParityLaw; decide, rfl⟩

theorem witness_HostStepsKeepTheCountersOnTheirEvents :
    HostFed fed ∧ CountersMatchTrace fed ∧ step fed = .next (eosAct State.reset) :=
  ⟨by unfold HostFed; decide, by unfold CountersMatchTrace; decide, rfl⟩

theorem witness_HostStepsKeepTheSinkSound : HostFed fed ∧ SinkSound fed ∧ step fed = .next (eosAct State.reset) :=
  ⟨by unfold HostFed; decide, by unfold SinkSound; decide, rfl⟩

theorem witness_WrongInitialLineStateLosesUpToTheFirstOne : LineState.high ≠ LineState.low := by decide

theorem witness_BlockMatchesTheBatchProcess :
    Cfg.default.sinkAttached = true ∧ feed (channelSymbols []) (State.resetWith Cfg.default []) = .next (eosAct State.reset) ∧
      (eosAct State.reset).fault = none := ⟨rfl, rfl, rfl⟩

theorem witness_SinkDecidesOnlyWhetherBytesAreRetained :
    Cfg.default.sinkAttached = true ∧ [Instr.eos] <+: channelSymbols [] ∧
      feed [.eos] (State.resetWith Cfg.default []) = .next (eosAct State.reset) ∧ (eosAct State.reset).fault = none ∧
      feed [.eos] (State.resetWith { Cfg.default with sinkAttached := false } [])
        = .next (eosAct (State.resetWith { Cfg.default with sinkAttached := false } [])) :=
  ⟨rfl, by decide, rfl, rfl, rfl⟩

theorem witness_StatusViewShowsTheRegisters :
    State.reset.cfg.cntW = none ∧ ({ Cfg.default with cntW := some 16 } : Cfg).cntW = some 16 ∧ State.reset.rcd.length ≤ Config.maxRecCap ∧ State.reset.cfg.recCap ≤ Config.maxRecCap ∧
      12 ≤ (12#8 : Byte).toNat ∧ 12 ≤ (255#8 : Byte).toNat := by decide

/-- Between runs (DONE, a fault, nothing taken yet), in a run, and outside the domain at both ends. -/
theorem witness_ConfigurationChangesOnlyBetweenRuns :
    (Cfg.default.wf = true ∧ ended.fsm = .done ∧ faulted.fault ≠ none ∧ State.reset.nCh = 0) ∧
      ((holding 1#1 State.reset).fsm ≠ .done ∧ (holding 1#1 State.reset).fault = none ∧ (holding 1#1 State.reset).nCh ≠ 0) ∧
      (¬ (1 ≤ 0 ∧ 0 ≤ 4294967295)) ∧ ¬ (1 ≤ 4294967296 ∧ 4294967296 ≤ 4294967295) := by decide

/-- A state whose window is not a palindrome, and the three fills below 3. -/
theorem test_window_push : windowPush 0b011#3 0#1 = 0b110#3 ∧ fillPush 0#2 = 1#2 ∧ fillPush 3#2 = 3#2 := by decide

/-- 70 R250 with 40 R104: RESET is a normal step with no event, from a faulted state with a trace too. -/
theorem test_reset_is_a_normal_step :
    NormalStep .reset { faulted with trace := [.marker 0] } State.reset [] ∧ NormalStep .reset ended State.reset [] :=
  ⟨rfl, rfl⟩

/-- 40 R104: a second EOS answers Fault(ProtocolViolation), and a faulted state has no step. -/
theorem test_answer_fault :
    answer .eos ended = .fault .protocolViolation { ended with fault := some .protocolViolation } ∧
      answer .eos faulted = .noStep := by decide

/-- V3.5: the run of the empty sequence is observed with the one event DONE. -/
theorem test_observed_run :
    (observedRun Cfg.default [.eos]).map (fun o => (o.records, o.events))
      = some ([], [[], [], [], [], [], [], [], [], [.done]]) := by decide

/-- V6.1's final step, per kind. -/
theorem test_observe_per_kind :
    perKind [.incomplete 10, .record 1, .done] = [[], [], [], [], [], [], [.incomplete 10], [.record 1], [.done]] := by decide

/-- A sequence longer than rec_cap whose Records fit: `11`, with rec_cap 1; and one without a sink. -/
theorem witness_InputWhoseRecordsFitNeverFaults :
    ({ Cfg.default with recCap := 1 } : Cfg).wf = true ∧
      (∀ r ∈ (runSeq [1#1, 1#1] .low).out, r.length ≤ 1) ∧
      ({ Cfg.default with recCap := 1, sinkAttached := false } : Cfg).wf = true := by decide

/-- A step that emits, and RESET. -/
theorem witness_NormalStepIsTheNormalAnswer :
    NormalStep .evDone State.reset { State.reset with trace := [.done] } [.done] ∧
      exec .evDone State.reset = .next { State.reset with trace := [.done] } ∧
      exec .reset ended = .next State.reset ∧ State.reset.fault = none := ⟨rfl, rfl, rfl, rfl⟩

theorem witness_ObservationIgnoresTheInterleavingOfKinds :
    eventKind (.lbit 0 1#1) ≠ eventKind (.pairErr 0 0#1 1#1) ∧ eventKind (.marker 0) ≠ eventKind (.record 1) := by decide

/-- The run of the empty sequence has an observation. -/
theorem witness_NormalRunIsObservedWithOneDone :
    observedRun Cfg.default (channelSymbols []) = some (observe (eosAct State.reset)) ∧ Cfg.default.sinkAttached = true :=
  ⟨rfl, rfl⟩

theorem witness_HostStepsKeepTheRecordsWithinCapacity :
    HostFed fed ∧ Reachable fed ∧ RecordsFit fed ∧ step fed = .next (eosAct State.reset) :=
  ⟨by unfold HostFed; decide, by decide, by unfold RecordsFit; decide, rfl⟩

end Sys2Proof.Tests
end

/-! ### The outputs only grow (00 R11, 20 R54, 60 R206)

The prefix order of the three output sequences, carried through each operation by one lemma of the form "if `t` extends
the outputs of `s`, so does the operation's result on `t`". The operations that write none of the three close by their
field lemmas. -/

namespace Sys2Proof.Machine

open Sys2Proof

/-- The trace, the sink sequence and the TAP stream of `t` extend those of `s`. -/
def OutputsGrow (s t : State) : Prop := s.trace <+: t.trace ∧ s.sink <+: t.sink ∧ s.tap <+: t.tap

namespace OutputsGrow

variable {s t : State}

theorem refl (s : State) : OutputsGrow s s := ⟨List.prefix_rfl, List.prefix_rfl, List.prefix_rfl⟩

/-- What writes none of the three sequences keeps the order. -/
theorem of_same (h : OutputsGrow s t) {u : State} (htrace : u.trace = t.trace) (hsink : u.sink = t.sink)
    (htap : u.tap = t.tap) : OutputsGrow s u := by
  rw [OutputsGrow, htrace, hsink, htap]
  exact h

theorem after_emit (h : OutputsGrow s t) (e : Event) : OutputsGrow s (emit e t) := by
  obtain ⟨htrace, hsink, htap⟩ := h
  exact ⟨htrace.trans (List.prefix_append _ _), hsink, htap⟩

theorem after_serialise (h : OutputsGrow s t) (r : Record) : OutputsGrow s (serialise r t) := by
  obtain ⟨htrace, hsink, htap⟩ := h
  exact ⟨htrace, hsink, htap.trans (List.prefix_append _ _)⟩

theorem after_recOut (h : OutputsGrow s t) (r : Record) : OutputsGrow s (recOut r t) := by
  obtain ⟨htrace, hsink, htap⟩ := h
  have hdeliver : OutputsGrow s (deliver r t) := ⟨htrace, hsink.trans (List.prefix_append _ _), htap⟩
  exact hdeliver.after_serialise r

theorem after_flush (h : OutputsGrow s t) : OutputsGrow s (flush t) := by
  by_cases hrcd : t.rcd = []
  · rw [flush_empty hrcd]
    exact h.of_same rfl rfl rfl
  · rw [flush_nonempty hrcd]
    have hcounted : OutputsGrow s (countRec (recOut t.rcd t)) := (h.after_recOut t.rcd).of_same rfl rfl rfl
    exact (hcounted.after_emit (.record t.rlen)).of_same rfl rfl rfl

theorem after_markerMatch (h : OutputsGrow s t) (first : Nat) : OutputsGrow s (markerMatch first t) := by
  have hcounted : OutputsGrow s (countMark t) := h.of_same rfl rfl rfl
  exact (hcounted.after_emit (.marker first)).of_same rfl rfl rfl

theorem after_markerTest (h : OutputsGrow s t) (first : Nat) : OutputsGrow s (markerTest first t) := by
  by_cases hm : t.wfill = 3#2 ∧ t.win = 0b010#3
  · rw [markerTest_match hm.1 hm.2]
    exact h.after_markerMatch first
  · rw [markerTest_other hm]
    exact h

/-- Each outcome of a consumed Frame first emits its event; END and VIOLATION then flush. -/
theorem after_takeFrame (h : OutputsGrow s t) (w : FrameWord) (q : Nat) : OutputsGrow s (takeFrame w q t) := by
  have htaken : OutputsGrow s (frameTaken t) := h.of_same rfl rfl rfl
  rcases takeFrame_cases w q t with
    ⟨-, heq⟩ | ⟨-, heq⟩ | ⟨-, -, heq⟩ | ⟨-, -, -, heq⟩ | ⟨-, -, -, heq⟩ <;> rw [heq]
  case inl => exact (htaken.after_emit _).after_flush.of_same rfl rfl rfl
  case inr.inl => exact (htaken.after_emit _).after_flush.of_same rfl rfl rfl
  case inr.inr.inl => exact htaken.after_emit _
  case inr.inr.inr.inl => exact (htaken.after_emit _).of_same rfl rfl rfl
  case inr.inr.inr.inr => exact (htaken.after_emit _).of_same rfl rfl rfl

theorem after_classifyBit (h : OutputsGrow s t) (d : Bit) (p : Nat) : OutputsGrow s (classifyBit d p t) := by
  rcases classifyBit_cases d p t with
    ⟨-, -, heq⟩ | ⟨-, -, heq⟩ | ⟨-, -, -, heq⟩ | ⟨-, -, heq⟩ | ⟨-, -, heq⟩ <;> rw [heq]
  case inl => exact h
  case inr.inl => exact h.of_same rfl rfl rfl
  case inr.inr.inl =>
    have hwindow : OutputsGrow s (setWindow 0b010#3 3#2 t) := h.of_same rfl rfl rfl
    exact hwindow.after_markerMatch _
  case inr.inr.inr.inl => exact h.of_same rfl rfl rfl
  case inr.inr.inr.inr => exact h.after_takeFrame _ _

theorem after_decodeStep (h : OutputsGrow s t) (a b : Bit) : OutputsGrow s (decodeStep a b t) := by
  rcases decodeStep_cases a b t with ⟨-, heq⟩ | ⟨d, -, -, heq⟩ <;> rw [heq]
  case inl =>
    have hcounted : OutputsGrow s (countErr (countPair t)) := h.of_same rfl rfl rfl
    exact hcounted.after_emit _
  case inr =>
    have hcounted : OutputsGrow s (countLb (setLs (fmNext t.ls d) (countPair t))) := h.of_same rfl rfl rfl
    exact (hcounted.after_emit _).after_classifyBit d _

theorem after_sampleAct (h : OutputsGrow s t) (b : Bit) : OutputsGrow s (sampleAct b t) := by
  have hcounted : OutputsGrow s (countCh t) := h.of_same rfl rfl rfl
  unfold sampleAct
  by_cases hv : (countCh t).hv = 0#1
  · rw [pairStep_first hv]
    exact hcounted.of_same rfl rfl rfl
  · rw [pairStep_second hv]
    have hunlatched : OutputsGrow s (unlatch (countCh t)) := hcounted.of_same rfl rfl rfl
    exact hunlatched.after_decodeStep _ b

theorem after_closeRecord (h : OutputsGrow s t) : OutputsGrow s (closeRecord t) := by
  rcases closeRecord_cases t with ⟨-, heq⟩ | ⟨-, heq⟩ <;> rw [heq]
  case inl => exact (h.after_emit _).after_flush
  case inr => exact h

theorem after_eosAct (h : OutputsGrow s t) : OutputsGrow s (eosAct t) := by
  have hunlatched : OutputsGrow s (unlatch t) := h.of_same rfl rfl rfl
  have hended : OutputsGrow s (setFsm .done (setFrame 0#11 0#4 (setWindow 0#3 0#2 (closeRecord (unlatch t))))) :=
    hunlatched.after_closeRecord.of_same rfl rfl rfl
  exact hended.after_emit .done

/-- Every case of exec but RESET's extends the outputs. -/
theorem of_execCase {i : Instr} (h : ExecCase s i t) (hi : i ≠ .reset) : OutputsGrow s t := by
  cases h with
  | held => exact refl s
  | raised r => exact (refl s).of_same rfl rfl rfl
  | sampled b => exact (refl s).after_sampleAct b
  | ended => exact (refl s).after_eosAct
  | restarted => exact absurd rfl hi
  | paired a b => exact (refl s).after_decodeStep a b
  | marked first => exact (refl s).after_markerTest first
  | framed w q => exact (refl s).after_takeFrame w q
  | emitted e => exact (refl s).after_emit e
  | serialised p => exact (refl s).after_serialise p

end OutputsGrow

/-- Settles O30, over the cases of exec. -/
theorem outputsOnlyGrow : Obligations.OutputsOnlyGrow := by
  unfold Obligations.OutputsOnlyGrow
  intro i s t h hi
  exact OutputsGrow.of_execCase (exec_cases h) hi

end Sys2Proof.Machine

/-! ### What a step keeps: the packaged case analyses (10 R23, 40 R104)

An invariant is kept by every step of a host once it is kept by taking a word, a raised fault, RESET, SAMPLE's action and
EOS's action; it is kept by every step at all once it is also kept by the actions of the rows inside a step. -/

namespace Sys2Proof.Machine

open Sys2Proof

/-- `P` is kept by everything a host's step can do. The actions of SAMPLE and EOS run behind their guards (40 R100, R102). -/
structure KeptByHostMoves (P : State → Prop) : Prop where
  taken : ∀ {s : State} {w : FormatWord} {ws : List FormatWord}, s.input = w :: ws → P s → P (setInput ws s)
  raised : ∀ {s : State} (r : FaultReason), P s → P (raise r s)
  restarted : ∀ {s : State}, P s → P (resetRun s)
  sampled : ∀ {s : State} (b : Bit), Reachable s → s.fsm ≠ .done → P s → P (sampleAct b s)
  ended : ∀ {s : State}, Reachable s → s.fsm ≠ .done → P s → P (eosAct s)

/-- `P` is kept by everything any row of the opcode table can do. -/
structure KeptByEveryRow (P : State → Prop) : Prop extends KeptByHostMoves P where
  paired : ∀ {s : State} (a b : Bit), RegsOk s → s.fsm ≠ .done → P s → P (decodeStep a b s)
  marked : ∀ {s : State} (first : Nat), RegsOk s → s.fsm = .searching → P s → P (markerTest first s)
  framed : ∀ {s : State} (w : FrameWord) (q : Nat), RegsOk s → s.fsm = .inRecord → P s → P (takeFrame w q s)
  emitted : ∀ {s : State} (e : Event), P s → P (emit e s)
  serialised : ∀ {s : State} (r : Record), P s → P (serialise r s)

theorem KeptByHostMoves.execCase {P : State → Prop} (hP : KeptByHostMoves P) {i : Instr} {s t : State}
    (hmove : hostMove i = true) (hs : P s) (h : ExecCase s i t) : P t := by
  cases h with
  | held => exact hs
  | raised r => exact hP.raised r hs
  | sampled b _ _ hr hd => exact hP.sampled b hr hd hs
  | ended _ hr hd => exact hP.ended hr hd hs
  | restarted => exact hP.restarted hs
  | paired _ _ hinner => simp [hmove] at hinner
  | marked _ hinner => simp [hmove] at hinner
  | framed _ _ hinner => simp [hmove] at hinner
  | emitted _ hinner => simp [hmove] at hinner
  | serialised _ hinner => simp [hmove] at hinner

theorem KeptByEveryRow.execCase {P : State → Prop} (hP : KeptByEveryRow P) {i : Instr} {s t : State} (hs : P s)
    (h : ExecCase s i t) : P t := by
  cases h with
  | held => exact hs
  | raised r => exact hP.raised r hs
  | sampled b _ _ hr hd => exact hP.sampled b hr hd hs
  | ended _ hr hd => exact hP.ended hr hd hs
  | restarted => exact hP.restarted hs
  | paired a b _ _ hr hd => exact hP.paired a b hr hd hs
  | marked first _ _ hr hsearch => exact hP.marked first hr hsearch hs
  | framed w q _ _ hr hrec => exact hP.framed w q hr hrec hs
  | emitted e => exact hP.emitted e hs
  | serialised r => exact hP.serialised r hs

/-- An invariant that every host move keeps is kept by every step of a host-fed state. -/
theorem KeptByHostMoves.step {P : State → Prop} (hP : KeptByHostMoves P) {s t : State} (hfed : HostFed s) (hs : P s)
    (h : step s = .next t) : P t := by
  obtain ⟨-, rfl⟩ | ⟨w, ws, hinput, rfl | ⟨i, hdecode, hcase⟩⟩ := step_cases h
  · exact hs
  · exact hP.taken hinput hs
  · have hformat : w.format = .inSym ∨ w.format = .textIn := hfed w (by simp [hinput])
    exact hP.execCase (hostMove_of_decode hformat hdecode) (hP.taken hinput hs) hcase

/-- An invariant that every row keeps is kept by every step. -/
theorem KeptByEveryRow.step {P : State → Prop} (hP : KeptByEveryRow P) {s t : State} (hs : P s)
    (h : step s = .next t) : P t := by
  obtain ⟨-, rfl⟩ | ⟨w, ws, hinput, rfl | ⟨i, -, hcase⟩⟩ := step_cases h
  · exact hs
  · exact hP.taken hinput hs
  · exact hP.execCase (hP.taken hinput hs) hcase

/-- SAMPLE's action in its two branches (40 R100, 41 R120). -/
theorem sampleAct_cases (b : Bit) (s : State) :
    (s.hv = 0#1 ∧ sampleAct b s = latch b (countCh s)) ∨
    (s.hv = 1#1 ∧ sampleAct b s = decodeStep s.ha b (unlatch (countCh s))) := by
  rcases bit_cases s.hv with h | h
  · exact .inl ⟨h, pairStep_first h⟩
  · exact .inr ⟨h, pairStep_second (s := countCh s) (by simp [h])⟩

/-- What holds after a sample is latched and after one completes a pair holds after SAMPLE's action. -/
theorem sampleAct_keeps {P : State → Prop} {b : Bit} {s : State} (hfirst : P (latch b (countCh s)))
    (hsecond : P (decodeStep s.ha b (unlatch (countCh s)))) : P (sampleAct b s) := by
  rcases sampleAct_cases b s with ⟨-, heq⟩ | ⟨-, heq⟩ <;> rw [heq]
  · exact hfirst
  · exact hsecond

/-- The state in which a LogicalBit is classified: LS is moved, the pair and the bit are counted and LBIT is emitted
(41 R121, R123). -/
abbrev bitTaken (d : Bit) (s : State) : State :=
  emit (.lbit s.nLb d) (countLb (setLs (fmNext s.ls d) (countPair s)))

/-- A pair is skipped as invalid, or its LogicalBit is taken and then classified (41 R121). -/
theorem decodeStep_split (a b : Bit) (s : State) :
    decodeStep a b s = invalidPair s.nPair a b (countPair s) ∨
      ∃ d, decodeStep a b s = classifyBit d s.nLb (bitTaken d s) := by
  rcases decodeStep_cases a b s with ⟨-, heq⟩ | ⟨d, -, -, heq⟩
  · exact .inl heq
  · exact .inr ⟨d, heq⟩

end Sys2Proof.Machine

/-! ### What the classifier leaves alone, and what it writes

The classifier (42) writes none of the line decoder's registers and counters; of its own counters each moves by at most 1,
and a consumed Frame leaves an empty frame window. -/

namespace Sys2Proof.Machine

open Sys2Proof

/-- `t` has the configuration, the input and the line decoder's registers and counters of `s`. -/
structure DecoderSame (s t : State) : Prop where
  cfg : t.cfg = s.cfg
  input : t.input = s.input
  ls : t.ls = s.ls
  hv : t.hv = s.hv
  ha : t.ha = s.ha
  nCh : t.nCh = s.nCh
  nPair : t.nPair = s.nPair
  nErr : t.nErr = s.nErr
  nLb : t.nLb = s.nLb

theorem DecoderSame.refl (s : State) : DecoderSame s s := ⟨rfl, rfl, rfl, rfl, rfl, rfl, rfl, rfl, rfl⟩

theorem markerMatch_decoderSame (first : Nat) (s : State) : DecoderSame s (markerMatch first s) := by
  constructor <;> simp [markerMatch]

theorem markerTest_decoderSame (first : Nat) (s : State) : DecoderSame s (markerTest first s) := by
  by_cases hm : s.wfill = 3#2 ∧ s.win = 0b010#3
  · rw [markerTest_match hm.1 hm.2]
    exact markerMatch_decoderSame first s
  · rw [markerTest_other hm]
    exact .refl s

theorem takeFrame_decoderSame (w : FrameWord) (q : Nat) (s : State) : DecoderSame s (takeFrame w q s) := by
  rcases takeFrame_cases w q s with
    ⟨-, heq⟩ | ⟨-, heq⟩ | ⟨-, -, heq⟩ | ⟨-, -, -, heq⟩ | ⟨-, -, -, heq⟩ <;> rw [heq] <;> constructor <;> simp

theorem classifyBit_decoderSame (d : Bit) (p : Nat) (s : State) : DecoderSame s (classifyBit d p s) := by
  rcases classifyBit_cases d p s with
    ⟨-, -, heq⟩ | ⟨-, -, heq⟩ | ⟨-, -, -, heq⟩ | ⟨-, -, heq⟩ | ⟨-, -, heq⟩ <;> rw [heq]
  case inl => exact .refl s
  case inr.inl => constructor <;> simp
  case inr.inr.inl => constructor <;> simp [markerMatch]
  case inr.inr.inr.inl => constructor <;> simp
  case inr.inr.inr.inr => exact takeFrame_decoderSame _ _ s

theorem closeRecord_decoderSame (s : State) : DecoderSame s (closeRecord s) := by
  rcases closeRecord_cases s with ⟨-, heq⟩ | ⟨-, heq⟩ <;> rw [heq]
  · constructor <;> simp
  · exact .refl s

/-- EOS gives up the held sample, and leaves the rest of the line decoder alone (40 R102). -/
theorem eosAct_decoderSame (s : State) : DecoderSame (unlatch s) (eosAct s) := by
  have h := closeRecord_decoderSame (unlatch s)
  exact ⟨by simp [eosAct, h.cfg], by simp [eosAct, h.input], by simp [eosAct, h.ls], by simp [eosAct, h.hv],
    by simp [eosAct, h.ha], by simp [eosAct, h.nCh], by simp [eosAct, h.nPair], by simp [eosAct, h.nErr],
    by simp [eosAct, h.nLb]⟩

/-- `t` has the classifier's counters of `s`, each moved by at most 1 (10 R32). -/
structure ClassifierCountersAdvance (s t : State) : Prop where
  nMark : t.nMark = s.nMark ∨ t.nMark = s.nMark + 1
  nFrame : t.nFrame = s.nFrame ∨ t.nFrame = s.nFrame + 1
  nRec : t.nRec = s.nRec ∨ t.nRec = s.nRec + 1

theorem ClassifierCountersAdvance.refl (s : State) : ClassifierCountersAdvance s s := ⟨.inl rfl, .inl rfl, .inl rfl⟩

theorem flush_nRec (s : State) : (flush s).nRec = s.nRec ∨ (flush s).nRec = s.nRec + 1 := by
  by_cases h : s.rcd = []
  · rw [flush_empty h]
    exact .inl rfl
  · rw [flush_nonempty h]
    exact .inr rfl

theorem markerTest_countersAdvance (first : Nat) (s : State) : ClassifierCountersAdvance s (markerTest first s) := by
  by_cases hm : s.wfill = 3#2 ∧ s.win = 0b010#3
  · rw [markerTest_match hm.1 hm.2]
    constructor <;> simp [markerMatch]
  · rw [markerTest_other hm]
    exact .refl s

/-- A flush on the way back to SEARCHING moves N_REC only. -/
theorem enterSearching_flush_countersAdvance {s t : State} (hmark : t.nMark = s.nMark) (hframe : t.nFrame = s.nFrame + 1)
    (hrec : t.nRec = s.nRec) : ClassifierCountersAdvance s (enterSearching (flush t)) :=
  ⟨.inl (by simp [hmark]), .inr (by simp [hframe]), hrec ▸ flush_nRec t⟩

theorem takeFrame_countersAdvance (w : FrameWord) (q : Nat) (s : State) :
    ClassifierCountersAdvance s (takeFrame w q s) := by
  rcases takeFrame_cases w q s with
    ⟨-, heq⟩ | ⟨-, heq⟩ | ⟨-, -, heq⟩ | ⟨-, -, -, heq⟩ | ⟨-, -, -, heq⟩ <;> rw [heq]
  case inl => exact enterSearching_flush_countersAdvance (by simp) (by simp) (by simp)
  case inr.inl => exact enterSearching_flush_countersAdvance (by simp) (by simp) (by simp)
  all_goals constructor <;> simp

theorem classifyBit_countersAdvance (d : Bit) (p : Nat) (s : State) :
    ClassifierCountersAdvance s (classifyBit d p s) := by
  rcases classifyBit_cases d p s with
    ⟨-, -, heq⟩ | ⟨-, -, heq⟩ | ⟨-, -, -, heq⟩ | ⟨-, -, heq⟩ | ⟨-, -, heq⟩ <;> rw [heq]
  case inl => exact .refl s
  case inr.inl => constructor <;> simp
  case inr.inr.inl => constructor <;> simp [markerMatch]
  case inr.inr.inr.inl => constructor <;> simp
  case inr.inr.inr.inr => exact takeFrame_countersAdvance _ _ s

theorem closeRecord_countersAdvance (s : State) : ClassifierCountersAdvance s (closeRecord s) := by
  rcases closeRecord_cases s with ⟨-, heq⟩ | ⟨-, heq⟩ <;> rw [heq]
  · exact ⟨.inl (by simp), .inl (by simp), flush_nRec (emit _ s)⟩
  · exact .refl s

theorem eosAct_countersAdvance (s : State) : ClassifierCountersAdvance s (eosAct s) := by
  have h := closeRecord_countersAdvance (unlatch s)
  exact ⟨by simpa [eosAct] using h.nMark, by simpa [eosAct] using h.nFrame, by simpa [eosAct] using h.nRec⟩

/-- What a pair does to the line decoder's counters: one pair, which is either one LogicalBit or one error (41 R121). -/
theorem decodeStep_counters (a b : Bit) (s : State) :
    (decodeStep a b s).nCh = s.nCh ∧ (decodeStep a b s).hv = s.hv ∧ (decodeStep a b s).nPair = s.nPair + 1 ∧
      (((decodeStep a b s).nLb = s.nLb ∧ (decodeStep a b s).nErr = s.nErr + 1) ∨
        ((decodeStep a b s).nLb = s.nLb + 1 ∧ (decodeStep a b s).nErr = s.nErr)) := by
  rcases decodeStep_split a b s with heq | ⟨d, heq⟩ <;> rw [heq]
  · exact ⟨rfl, rfl, rfl, .inl ⟨rfl, rfl⟩⟩
  · have hsame := classifyBit_decoderSame d s.nLb (bitTaken d s)
    exact ⟨hsame.nCh, hsame.hv, hsame.nPair, .inr ⟨hsame.nLb, hsame.nErr⟩⟩

theorem decodeStep_countersAdvance (a b : Bit) (s : State) : ClassifierCountersAdvance s (decodeStep a b s) := by
  rcases decodeStep_split a b s with heq | ⟨d, heq⟩ <;> rw [heq]
  · constructor <;> simp [invalidPair]
  · have hadvance := classifyBit_countersAdvance d s.nLb (bitTaken d s)
    exact ⟨hadvance.nMark, hadvance.nFrame, hadvance.nRec⟩

/-- What a pair does to LS: nothing, or it moves LS by a LogicalBit that is counted and reported (41 R123, R126). -/
theorem decodeStep_lineState (a b : Bit) (s : State) :
    (decodeStep a b s).ls = s.ls ∨
      ∃ d, (decodeStep a b s).ls = fmNext s.ls d ∧ (decodeStep a b s).nLb = s.nLb + 1 ∧
        Event.lbit s.nLb d ∈ (decodeStep a b s).trace := by
  rcases decodeStep_split a b s with heq | ⟨d, heq⟩ <;> rw [heq]
  · exact .inl rfl
  · have hsame := classifyBit_decoderSame d s.nLb (bitTaken d s)
    obtain ⟨htrace, -, -⟩ := (OutputsGrow.refl (bitTaken d s)).after_classifyBit d s.nLb
    exact .inr ⟨d, hsame.ls, hsame.nLb, htrace.subset (by simp)⟩

/-- Settles O29, over the cases of exec: only a pair writes LS. -/
theorem onlyValidPairsWriteLineState : Obligations.OnlyValidPairsWriteLineState := by
  unfold Obligations.OnlyValidPairsWriteLineState
  intro i s t h hi
  cases exec_cases h with
  | held => exact .inl rfl
  | raised r => exact .inl rfl
  | sampled b =>
    rcases sampleAct_cases b s with ⟨-, heq⟩ | ⟨-, heq⟩ <;> rw [heq]
    · exact .inl rfl
    · exact decodeStep_lineState s.ha b (unlatch (countCh s))
  | ended => exact .inl (eosAct_decoderSame s).ls
  | restarted => exact absurd rfl hi
  | paired a b => exact decodeStep_lineState a b s
  | marked first => exact .inl (markerTest_decoderSame first s).ls
  | framed w q => exact .inl (takeFrame_decoderSame w q s).ls
  | emitted e => exact .inl rfl
  | serialised r => exact .inl rfl

/-- Every counter of `t` is that of `s` or 1 more (10 R32, R33). -/
structure CountersAdvance (s t : State) : Prop extends ClassifierCountersAdvance s t where
  nCh : t.nCh = s.nCh ∨ t.nCh = s.nCh + 1
  nPair : t.nPair = s.nPair ∨ t.nPair = s.nPair + 1
  nErr : t.nErr = s.nErr ∨ t.nErr = s.nErr + 1
  nLb : t.nLb = s.nLb ∨ t.nLb = s.nLb + 1

namespace CountersAdvance

/-- An operation of the classifier moves only the classifier's counters. -/
theorem of_classifier {s t : State} (hsame : DecoderSame s t) (h : ClassifierCountersAdvance s t) :
    CountersAdvance s t :=
  { h with nCh := .inl hsame.nCh, nPair := .inl hsame.nPair, nErr := .inl hsame.nErr, nLb := .inl hsame.nLb }

theorem refl (s : State) : CountersAdvance s s := of_classifier (.refl s) (.refl s)

theorem decodeStep (a b : Bit) (s : State) : CountersAdvance s (decodeStep a b s) := by
  obtain ⟨hch, -, hpair, ⟨hlb, herr⟩ | ⟨hlb, herr⟩⟩ := decodeStep_counters a b s
  · exact { decodeStep_countersAdvance a b s with
      nCh := .inl hch, nPair := .inr hpair, nErr := .inr herr, nLb := .inl hlb }
  · exact { decodeStep_countersAdvance a b s with
      nCh := .inl hch, nPair := .inr hpair, nErr := .inl herr, nLb := .inr hlb }

/-- A sample is counted, and completes a pair or none. -/
theorem sampleAct (b : Bit) (s : State) : CountersAdvance s (sampleAct b s) := by
  rcases sampleAct_cases b s with ⟨-, heq⟩ | ⟨-, heq⟩ <;> rw [heq]
  · exact { refl s with nCh := .inr rfl }
  · have hpair := CountersAdvance.decodeStep s.ha b (unlatch (countCh s))
    have hch := (decodeStep_counters s.ha b (unlatch (countCh s))).1
    exact ⟨⟨hpair.nMark, hpair.nFrame, hpair.nRec⟩, .inr hch, hpair.nPair, hpair.nErr, hpair.nLb⟩

theorem eosAct (s : State) : CountersAdvance s (eosAct s) := by
  have hsame := eosAct_decoderSame s
  exact { eosAct_countersAdvance s with
    nCh := .inl hsame.nCh, nPair := .inl hsame.nPair, nErr := .inl hsame.nErr, nLb := .inl hsame.nLb }

/-- Every case of exec but RESET's. -/
theorem of_execCase {i : Instr} {s t : State} (h : ExecCase s i t) (hi : i ≠ .reset) : CountersAdvance s t := by
  cases h with
  | held => exact refl s
  | raised r => exact { refl s with }
  | sampled b => exact sampleAct b s
  | ended => exact eosAct s
  | restarted => exact absurd rfl hi
  | paired a b => exact decodeStep a b s
  | marked first => exact of_classifier (markerTest_decoderSame first s) (markerTest_countersAdvance first s)
  | framed w q => exact of_classifier (takeFrame_decoderSame w q s) (takeFrame_countersAdvance w q s)
  | emitted e => exact { refl s with }
  | serialised r => exact { refl s with }

end CountersAdvance

/-- Settles O31, over the cases of exec. -/
theorem countersAdvanceByAtMostOne : Obligations.CountersAdvanceByAtMostOne := by
  unfold Obligations.CountersAdvanceByAtMostOne
  intro i s t h hi
  have hadvance : CountersAdvance s t := .of_execCase (exec_cases h) hi
  exact ⟨hadvance.nCh, hadvance.nPair, hadvance.nErr, hadvance.nLb, hadvance.nMark, hadvance.nFrame, hadvance.nRec⟩

end Sys2Proof.Machine

/-! ### The register clauses of 10 R35

Each operation keeps the clauses from those of them it needs; the operations that write no register of theirs keep them by
definition. -/

namespace Sys2Proof.Machine

open Sys2Proof

theorem resetWith_regsOk (c : Cfg) (ws : List FormatWord) : RegsOk (State.resetWith c ws) := by
  simp [regsOk_iff, State.resetWith]

theorem markerMatch_regsOk {s : State} (h : RegsOk s) (first : Nat) : RegsOk (markerMatch first s) := by
  obtain ⟨-, -, -, -, hlatch, -, -, -⟩ := (regsOk_iff s).mp h
  simpa [regsOk_iff, markerMatch] using hlatch

/-- A window written in SEARCHING, the only state in which WFILL may be other than 0. -/
theorem setWindow_regsOk {s : State} (h : RegsOk s) (hsearch : s.fsm = .searching) (w : WindowWord) (n : BitVec 2) :
    RegsOk (setWindow w n s) := by
  simpa [regsOk_iff, hsearch] using h

theorem markerTest_regsOk {s : State} (h : RegsOk s) (first : Nat) : RegsOk (markerTest first s) := by
  by_cases hm : s.wfill = 3#2 ∧ s.win = 0b010#3
  · rw [markerTest_match hm.1 hm.2]
    exact markerMatch_regsOk h first
  · rw [markerTest_other hm]
    exact h

/-- A frame window written in IN_RECORD, the only state in which FFILL may be other than 0. -/
theorem setFrame_regsOk {s : State} (h : RegsOk s) (hrec : s.fsm = .inRecord) (w : FrameWord) {n : BitVec 4}
    (hn : n.toNat ≤ 10) : RegsOk (setFrame w n s) := by
  obtain ⟨-, hwfill, -, -, hlatch, -, hcap, hsink⟩ := (regsOk_iff s).mp h
  have hempty : s.wfill = 0#2 := by simpa [hrec] using hwfill
  simpa [regsOk_iff, hrec, hn, hempty] using ⟨hlatch, hcap, hsink⟩

/-- A consumed Frame's fill is 0, so the flush that ends the Record leaves every clause of SEARCHING met. -/
theorem enterSearching_flush_regsOk {s : State} (h : RegsOk s) (hffill : s.ffill = 0#4) :
    RegsOk (enterSearching (flush s)) := by
  obtain ⟨-, -, -, -, hlatch, -, -, -⟩ := (regsOk_iff s).mp h
  simpa [regsOk_iff, hffill] using hlatch

/-- A byte is appended in IN_RECORD, with a sink and room (20 R52, 42 R151). -/
theorem pushByte_regsOk {s : State} (h : RegsOk s) (hrec : s.fsm = .inRecord) (hsink : s.cfg.sinkAttached = true)
    (hroom : s.rlen ≠ s.cfg.recCap) (v : Byte) : RegsOk (pushByte v s) := by
  obtain ⟨-, hwfill, hffill, -, hlatch, -, hcap, -⟩ := (regsOk_iff s).mp h
  have hlength : s.rcd.length + 1 ≤ s.cfg.recCap := Nat.lt_of_le_of_ne hcap hroom
  have hempty : s.wfill = 0#2 := by simpa [hrec] using hwfill
  simpa [regsOk_iff, hrec, hsink, hffill, hlength, hempty] using hlatch

theorem takeFrame_regsOk {s : State} (h : RegsOk s) (hrec : s.fsm = .inRecord) (w : FrameWord) (q : Nat) :
    RegsOk (takeFrame w q s) := by
  have hemptied : RegsOk (setFrame 0#11 0#4 s) := setFrame_regsOk h hrec 0#11 (by decide)
  have htaken : RegsOk (frameTaken s) := hemptied
  rcases takeFrame_cases w q s with
    ⟨-, heq⟩ | ⟨-, heq⟩ | ⟨-, -, heq⟩ | ⟨-, hsink, hroom, heq⟩ | ⟨-, -, -, heq⟩ <;> rw [heq]
  case inl => exact enterSearching_flush_regsOk htaken rfl
  case inr.inl => exact enterSearching_flush_regsOk htaken rfl
  case inr.inr.inl => exact htaken
  case inr.inr.inr.inl => exact pushByte_regsOk htaken hrec hsink hroom _
  case inr.inr.inr.inr => exact htaken

/-- FFILL + 1 does not wrap below 10. -/
theorem ffill_succ_toNat {n : BitVec 4} (h : n.toNat < 10) : (n + 1#4).toNat = n.toNat + 1 := by
  bv_omega

theorem classifyBit_regsOk {s : State} (h : RegsOk s) (d : Bit) (p : Nat) : RegsOk (classifyBit d p s) := by
  rcases classifyBit_cases d p s with
    ⟨-, -, heq⟩ | ⟨hsearch, -, heq⟩ | ⟨hsearch, -, -, heq⟩ | ⟨hrec, hroom, heq⟩ | ⟨hrec, -, heq⟩ <;> rw [heq]
  case inl => exact h
  case inr.inl => exact setWindow_regsOk h hsearch _ _
  case inr.inr.inl => exact markerMatch_regsOk (setWindow_regsOk h hsearch _ _) _
  case inr.inr.inr.inl => exact setFrame_regsOk h hrec _ (by rw [ffill_succ_toNat hroom]; omega)
  case inr.inr.inr.inr => exact takeFrame_regsOk h hrec _ _

theorem decodeStep_regsOk {s : State} (h : RegsOk s) (a b : Bit) : RegsOk (decodeStep a b s) := by
  rcases decodeStep_split a b s with heq | ⟨d, heq⟩ <;> rw [heq]
  · exact h
  · have htaken : RegsOk (bitTaken d s) := h
    exact classifyBit_regsOk htaken d _

theorem latch_regsOk {s : State} (h : RegsOk s) (b : Bit) : RegsOk (latch b s) := by
  obtain ⟨hfsm, hwfill, hffill, hframe, -, hrcd, hcap, hsink⟩ := (regsOk_iff s).mp h
  exact (regsOk_iff _).mpr ⟨hfsm, hwfill, hffill, hframe, nofun, hrcd, hcap, hsink⟩

theorem unlatch_regsOk {s : State} (h : RegsOk s) : RegsOk (unlatch s) := by
  obtain ⟨hfsm, hwfill, hffill, hframe, -, hrcd, hcap, hsink⟩ := (regsOk_iff s).mp h
  exact (regsOk_iff _).mpr ⟨hfsm, hwfill, hffill, hframe, fun _ => rfl, hrcd, hcap, hsink⟩

theorem sampleAct_regsOk {s : State} (h : RegsOk s) (b : Bit) : RegsOk (sampleAct b s) := by
  have hcounted : RegsOk (countCh s) := h
  exact sampleAct_keeps (latch_regsOk hcounted b) (decodeStep_regsOk (unlatch_regsOk hcounted) s.ha b)

/-- EOS leaves the Record empty: it flushes in IN_RECORD, and no Record is open elsewhere. -/
theorem closeRecord_rcd {s : State} (h : RegsOk s) : (closeRecord s).rcd = [] := by
  obtain ⟨-, -, -, -, -, hrcd, -, -⟩ := (regsOk_iff s).mp h
  rcases closeRecord_cases s with ⟨-, heq⟩ | ⟨hrec, heq⟩ <;> rw [heq]
  · exact flush_rcd _
  · exact hrcd.resolve_left hrec

theorem eosAct_regsOk {s : State} (h : RegsOk s) : RegsOk (eosAct s) := by
  have hrcd : (closeRecord (unlatch s)).rcd = [] := closeRecord_rcd (unlatch_regsOk h)
  have hha : (closeRecord (unlatch s)).ha = 0#1 := (closeRecord_decoderSame (unlatch s)).ha
  simp [regsOk_iff, eosAct, hrcd, hha]

theorem regsOk_keptByEveryRow : KeptByEveryRow RegsOk where
  taken _ h := h
  raised _ h := h
  restarted _ := resetWith_regsOk _ _
  sampled b _ _ h := sampleAct_regsOk h b
  ended _ _ h := eosAct_regsOk h
  paired a b _ _ h := decodeStep_regsOk h a b
  marked first _ _ h := markerTest_regsOk h first
  framed w q _ hrec h := takeFrame_regsOk h hrec w q
  emitted _ h := h
  serialised _ h := h

/-- Settles O38, over the cases of a step. -/
theorem everyStepKeepsTheRegisterInvariant : Obligations.EveryStepKeepsTheRegisterInvariant := by
  unfold Obligations.EveryStepKeepsTheRegisterInvariant
  intro s t hregs h
  exact regsOk_keptByEveryRow.step hregs h

end Sys2Proof.Machine

/-! ### The whole of 10 R35 under a host's input -/

namespace Sys2Proof.Machine

open Sys2Proof

theorem decodeStep_input (a b : Bit) (s : State) : (decodeStep a b s).input = s.input := by
  rcases decodeStep_split a b s with heq | ⟨d, heq⟩ <;> rw [heq]
  · rfl
  · exact (classifyBit_decoderSame _ _ _).input

theorem sampleAct_input (b : Bit) (s : State) : (sampleAct b s).input = s.input :=
  sampleAct_keeps (P := fun t => t.input = s.input) rfl (decodeStep_input _ _ _)

theorem eosAct_input (s : State) : (eosAct s).input = s.input := (eosAct_decoderSame s).input

/-- The rest of a host's input is a host's input, and no action writes the input. -/
theorem hostFed_keptByHostMoves : KeptByHostMoves HostFed where
  taken hinput h w hw := h w (hinput ▸ List.mem_cons_of_mem _ hw)
  raised _ h := h
  restarted h := h
  sampled b _ _ h := by
    unfold HostFed
    rw [sampleAct_input]
    exact h
  ended _ _ h := by
    unfold HostFed
    rw [eosAct_input]
    exact h

theorem resetWith_countsOk (c : Cfg) (ws : List FormatWord) : countsOk (State.resetWith c ws) = true := by
  simp [countsOk_iff, State.resetWith]

/-- A sample alternates HV with the parity of N_CH, and each second one makes a pair (10 R35, 41 R120). -/
theorem sampleAct_countsOk {s : State} (h : countsOk s = true) (hd : s.fsm ≠ .done) (b : Bit) :
    countsOk (sampleAct b s) = true := by
  obtain ⟨hsum, hpair, hparity⟩ := (countsOk_iff s).mp h
  replace hparity : s.hv.toNat = s.nCh % 2 := hparity.resolve_left hd
  rcases sampleAct_cases b s with ⟨hv, heq⟩ | ⟨hv, heq⟩ <;> rw [heq, countsOk_iff]
  · have heven : s.nCh % 2 = 0 := by simpa [hv] using hparity.symm
    simp only [latch_nLb, countCh_nLb, latch_nErr, countCh_nErr, latch_nPair, countCh_nPair, latch_nCh, countCh_nCh,
      latch_hv, BitVec.toNat_ofNat]
    exact ⟨hsum, by omega, .inr (by omega)⟩
  · have hodd : s.nCh % 2 = 1 := by simpa [hv] using hparity.symm
    obtain ⟨hch, hheld, hpairs, hbits⟩ := decodeStep_counters s.ha b (unlatch (countCh s))
    simp only [unlatch_nCh, countCh_nCh, unlatch_hv, unlatch_nPair, countCh_nPair, unlatch_nLb, countCh_nLb,
      unlatch_nErr, countCh_nErr] at hch hheld hpairs hbits
    rw [hch, hheld, hpairs, BitVec.toNat_ofNat]
    exact ⟨by omega, by omega, .inr (by omega)⟩

/-- EOS writes no counter of 10 R35, and FSM = DONE frees HV of the parity of N_CH. -/
theorem eosAct_countsOk {s : State} (h : countsOk s = true) : countsOk (eosAct s) = true := by
  obtain ⟨hsum, hpair, -⟩ := (countsOk_iff s).mp h
  have hsame := eosAct_decoderSame s
  rw [countsOk_iff, hsame.nLb, hsame.nErr, hsame.nPair, hsame.nCh]
  exact ⟨hsum, hpair, .inl rfl⟩

theorem resetWith_reachable (c : Cfg) (ws : List FormatWord) : Reachable (State.resetWith c ws) :=
  (reachable_iff _).mpr ⟨resetWith_regsOk c ws, resetWith_countsOk c ws⟩

theorem reachable_keptByHostMoves : KeptByHostMoves Reachable where
  taken _ h := h
  raised _ h := h
  restarted _ := resetWith_reachable _ _
  sampled b _ hd h := by
    obtain ⟨hregs, hcounts⟩ := (reachable_iff _).mp h
    exact (reachable_iff _).mpr ⟨sampleAct_regsOk hregs b, sampleAct_countsOk hcounts hd b⟩
  ended _ _ h := by
    obtain ⟨hregs, hcounts⟩ := (reachable_iff _).mp h
    exact (reachable_iff _).mpr ⟨eosAct_regsOk hregs, eosAct_countsOk hcounts⟩

/-- Settles O41, over the host's moves. -/
theorem hostStepsKeepTheReachableInvariant : Obligations.HostStepsKeepTheReachableInvariant := by
  unfold Obligations.HostStepsKeepTheReachableInvariant
  intro s t hfed hreach h
  exact ⟨hostFed_keptByHostMoves.step hfed hfed h, reachable_keptByHostMoves.step hfed hreach h⟩

end Sys2Proof.Machine

/-! ### The windows' fills and bits (10 R29, R30)

The marker test and a consumed Frame only empty a window or leave it, so both invariants turn on the one bit that
CLASSIFY_BIT pushes. -/

namespace Sys2Proof.Machine

open Sys2Proof

/-- A consumed Frame empties the frame window, and the search window is emptied or left (42 R143, R146, R147). -/
theorem takeFrame_windows (w : FrameWord) (q : Nat) (s : State) :
    (takeFrame w q s).frm = 0#11 ∧ (takeFrame w q s).ffill = 0#4 ∧
      (((takeFrame w q s).win = 0#3 ∧ (takeFrame w q s).wfill = 0#2) ∨
        ((takeFrame w q s).win = s.win ∧ (takeFrame w q s).wfill = s.wfill)) := by
  rcases takeFrame_cases w q s with
    ⟨-, heq⟩ | ⟨-, heq⟩ | ⟨-, -, heq⟩ | ⟨-, -, -, heq⟩ | ⟨-, -, -, heq⟩ <;> rw [heq] <;> simp

theorem eosAct_windows (s : State) :
    (eosAct s).win = 0#3 ∧ (eosAct s).wfill = 0#2 ∧ (eosAct s).frm = 0#11 ∧ (eosAct s).ffill = 0#4 :=
  ⟨rfl, rfl, rfl, rfl⟩

theorem markerMatch_windows (first : Nat) (s : State) :
    (markerMatch first s).win = 0#3 ∧ (markerMatch first s).wfill = 0#2 ∧ (markerMatch first s).frm = 0#11 ∧
      (markerMatch first s).ffill = 0#4 :=
  ⟨rfl, rfl, rfl, rfl⟩

theorem fillPush_toNat_le (n : BitVec 2) : (fillPush n).toNat ≤ n.toNat + 1 := by
  revert n; decide

theorem resetWith_positionsOk (c : Cfg) (ws : List FormatWord) : PositionsOk (State.resetWith c ws) := by
  simp [PositionsOk, State.resetWith]

/-- Empty windows meet the positions whatever N_LB is. -/
theorem positionsOk_of_empty {s : State} (hwfill : s.wfill = 0#2) (hffill : s.ffill = 0#4) : PositionsOk s := by
  simp [PositionsOk, hwfill, hffill]

theorem markerTest_positionsOk {s : State} (h : PositionsOk s) (first : Nat) : PositionsOk (markerTest first s) := by
  by_cases hm : s.wfill = 3#2 ∧ s.win = 0b010#3
  · rw [markerTest_match hm.1 hm.2]
    exact positionsOk_of_empty rfl rfl
  · rw [markerTest_other hm]
    exact h

theorem takeFrame_positionsOk {s : State} (h : PositionsOk s) (w : FrameWord) (q : Nat) :
    PositionsOk (takeFrame w q s) := by
  obtain ⟨-, hffill, hwindow⟩ := takeFrame_windows w q s
  obtain ⟨-, hwfill⟩ | ⟨-, hwfill⟩ := hwindow
  · exact positionsOk_of_empty hwfill hffill
  · unfold PositionsOk
    rw [hwfill, hffill, (takeFrame_decoderSame w q s).nLb]
    exact ⟨h.1, Nat.zero_le _⟩

/-- The LogicalBit is counted before it is classified, so both fills are below N_LB when CLASSIFY_BIT pushes it. -/
theorem classifyBit_positionsOk {s : State} (hwfill : s.wfill.toNat < s.nLb) (hffill : s.ffill.toNat < s.nLb) (d : Bit)
    (p : Nat) : PositionsOk (classifyBit d p s) := by
  have hbefore : PositionsOk s := ⟨hwfill.le, hffill.le⟩
  rcases classifyBit_cases d p s with
    ⟨-, -, heq⟩ | ⟨-, -, heq⟩ | ⟨-, -, -, heq⟩ | ⟨-, hroom, heq⟩ | ⟨-, -, heq⟩ <;> rw [heq]
  case inl => exact hbefore
  case inr.inl => exact ⟨(fillPush_toNat_le s.wfill).trans hwfill, hffill.le⟩
  case inr.inr.inl => exact positionsOk_of_empty rfl rfl
  case inr.inr.inr.inl => exact ⟨hwfill.le, (ffill_succ_toNat hroom).trans_le hffill⟩
  case inr.inr.inr.inr => exact takeFrame_positionsOk hbefore _ _

theorem decodeStep_positionsOk {s : State} (h : PositionsOk s) (a b : Bit) : PositionsOk (decodeStep a b s) := by
  obtain ⟨hwfill, hffill⟩ := h
  rcases decodeStep_split a b s with heq | ⟨d, heq⟩ <;> rw [heq]
  · exact ⟨hwfill, hffill⟩
  · exact classifyBit_positionsOk (Nat.lt_succ_of_le hwfill) (Nat.lt_succ_of_le hffill) d _

theorem sampleAct_positionsOk {s : State} (h : PositionsOk s) (b : Bit) : PositionsOk (sampleAct b s) := by
  have hunlatched : PositionsOk (unlatch (countCh s)) := h
  exact sampleAct_keeps h (decodeStep_positionsOk hunlatched s.ha b)

theorem positionsOk_keptByEveryRow : KeptByEveryRow PositionsOk where
  taken _ h := h
  raised _ h := h
  restarted _ := resetWith_positionsOk _ _
  sampled b _ _ h := sampleAct_positionsOk h b
  ended _ _ _ := positionsOk_of_empty rfl rfl
  paired a b _ _ h := decodeStep_positionsOk h a b
  marked first _ _ h := markerTest_positionsOk h first
  framed w q _ _ h := takeFrame_positionsOk h w q
  emitted _ h := h
  serialised _ h := h

/-- Settles O39, over the cases of a step. -/
theorem everyStepKeepsThePositions : Obligations.EveryStepKeepsThePositions := by
  unfold Obligations.EveryStepKeepsThePositions
  intro s t hpos h
  exact positionsOk_keptByEveryRow.step hpos h

/-! #### The bits above the fill -/

theorem windowPush_lt {w : WindowWord} {n : BitVec 2} (h : w.toNat < 2 ^ n.toNat) (d : Bit) :
    (windowPush w d).toNat < 2 ^ (fillPush n).toNat := by
  revert w n d; decide

/-- Writing FRM[i] over bits below i leaves bits below i + 1. -/
theorem frameSet_lt {w : FrameWord} {i : Nat} (h : w.toNat < 2 ^ i) (d : Bit) :
    (frameSet w i d).toNat < 2 ^ (i + 1) := by
  have hkept : (w &&& ~~~(1#11 <<< i)).toNat < 2 ^ (i + 1) := by
    rw [BitVec.toNat_and]
    calc w.toNat &&& (~~~(1#11 <<< i)).toNat ≤ w.toNat := Nat.and_le_left
      _ < 2 ^ (i + 1) := h.trans (Nat.pow_lt_pow_right (by decide) (Nat.lt_succ_self i))
  have hset : (d.setWidth 11 <<< i).toNat < 2 ^ (i + 1) := by
    have hbit : (d.setWidth 11).toNat < 2 := by
      rcases bit_cases d with rfl | rfl <;> decide
    calc (d.setWidth 11 <<< i).toNat ≤ (d.setWidth 11).toNat * 2 ^ i := by
          rw [BitVec.toNat_shiftLeft, Nat.shiftLeft_eq]
          exact Nat.mod_le _ _
      _ < 2 * 2 ^ i := Nat.mul_lt_mul_of_pos_right hbit (Nat.two_pow_pos i)
      _ = 2 ^ (i + 1) := (Nat.pow_succ').symm
  rw [frameSet, BitVec.toNat_or]
  exact Nat.or_lt_two_pow hkept hset

theorem windowsClean_of_empty {s : State} (h : s.win = 0#3 ∧ s.wfill = 0#2 ∧ s.frm = 0#11 ∧ s.ffill = 0#4) :
    WindowsClean s := by
  obtain ⟨hwin, hwfill, hfrm, hffill⟩ := h
  simp [WindowsClean, hwin, hwfill, hfrm, hffill]

theorem takeFrame_windowsClean {s : State} (h : WindowsClean s) (w : FrameWord) (q : Nat) :
    WindowsClean (takeFrame w q s) := by
  obtain ⟨hfrm, hffill, ⟨hwin, hwfill⟩ | ⟨hwin, hwfill⟩⟩ := takeFrame_windows w q s
  · exact windowsClean_of_empty ⟨hwin, hwfill, hfrm, hffill⟩
  · unfold WindowsClean
    rw [hwin, hwfill, hfrm, hffill]
    exact ⟨h.1, by decide⟩

theorem classifyBit_windowsClean {s : State} (h : WindowsClean s) (d : Bit) (p : Nat) :
    WindowsClean (classifyBit d p s) := by
  obtain ⟨hwin, hfrm⟩ := h
  rcases classifyBit_cases d p s with
    ⟨-, -, heq⟩ | ⟨-, -, heq⟩ | ⟨-, -, -, heq⟩ | ⟨-, hroom, heq⟩ | ⟨-, -, heq⟩ <;> rw [heq]
  case inl => exact ⟨hwin, hfrm⟩
  case inr.inl => exact ⟨windowPush_lt hwin d, hfrm⟩
  case inr.inr.inl => exact windowsClean_of_empty (markerMatch_windows _ _)
  case inr.inr.inr.inl =>
    refine ⟨hwin, ?_⟩
    rw [setFrame_frm, setFrame_ffill, ffill_succ_toNat hroom]
    exact frameSet_lt hfrm d
  case inr.inr.inr.inr => exact takeFrame_windowsClean ⟨hwin, hfrm⟩ _ _

theorem decodeStep_windowsClean {s : State} (h : WindowsClean s) (a b : Bit) : WindowsClean (decodeStep a b s) := by
  rcases decodeStep_split a b s with heq | ⟨d, heq⟩ <;> rw [heq]
  · exact h
  · have htaken : WindowsClean (bitTaken d s) := h
    exact classifyBit_windowsClean htaken d _

theorem sampleAct_windowsClean {s : State} (h : WindowsClean s) (b : Bit) : WindowsClean (sampleAct b s) := by
  have hunlatched : WindowsClean (unlatch (countCh s)) := h
  exact sampleAct_keeps h (decodeStep_windowsClean hunlatched s.ha b)

theorem resetWith_windowsClean (c : Cfg) (ws : List FormatWord) : WindowsClean (State.resetWith c ws) :=
  windowsClean_of_empty ⟨rfl, rfl, rfl, rfl⟩

theorem windowsClean_keptByHostMoves : KeptByHostMoves WindowsClean where
  taken _ h := h
  raised _ h := h
  restarted _ := resetWith_windowsClean _ _
  sampled b _ _ h := sampleAct_windowsClean h b
  ended _ _ _ := windowsClean_of_empty (eosAct_windows _)

/-- Settles O42, over the host's moves. -/
theorem hostStepsKeepTheWindowsClean : Obligations.HostStepsKeepTheWindowsClean := by
  unfold Obligations.HostStepsKeepTheWindowsClean
  intro s t hfed _ hclean h
  exact windowsClean_keptByHostMoves.step hfed hclean h

end Sys2Proof.Machine

/-! ### The counters and their events (10 R32, 30 R78)

Each counter is written beside the emission of its event, and N_REC beside the delivery to the sink. -/

namespace Sys2Proof.Machine

open Sys2Proof

/-- `t` has the events `es` and the Records `rs` beside those of `s`, and its counters have counted them. -/
structure CountedOutputs (s t : State) (es : List Event) (rs : List Record) : Prop where
  trace : t.trace = s.trace ++ es
  sink : t.sink = s.sink ++ rs
  nLb : t.nLb = s.nLb + (traceBits es).length
  nErr : t.nErr = s.nErr + (traceErrs es).length
  nMark : t.nMark = s.nMark + es.countP isMarkerEvent
  nFrame : t.nFrame = s.nFrame + es.countP isFrameEvent
  nRec : t.nRec = s.nRec + es.countP isRecordEvent
  records : es.countP isRecordEvent = rs.length

theorem CountedOutputs.countersMatchTrace {s t : State} {es : List Event} {rs : List Record}
    (h : CountedOutputs s t es rs) (hs : CountersMatchTrace s) : CountersMatchTrace t := by
  obtain ⟨hlb, herr, hmark, hframe, hrec, hsink⟩ := hs
  unfold CountersMatchTrace
  rw [h.trace, h.sink, h.nLb, h.nErr, h.nMark, h.nFrame, h.nRec]
  simp only [traceBits_append, traceErrs_append, List.length_append, List.countP_append]
  refine ⟨by rw [hlb], by rw [herr], by rw [hmark], by rw [hframe], by rw [hrec], by rw [hsink, h.records]⟩

theorem resetWith_countersMatchTrace (c : Cfg) (ws : List FormatWord) : CountersMatchTrace (State.resetWith c ws) := by
  simp [CountersMatchTrace, State.resetWith]

theorem invalidPair_countersMatchTrace {s : State} (h : CountersMatchTrace s) (k : Nat) (a b : Bit) :
    CountersMatchTrace (invalidPair k a b s) :=
  CountedOutputs.countersMatchTrace (es := [.pairErr k a b]) (rs := [])
    (by constructor <;> simp [invalidPair, isMarkerEvent, isFrameEvent, isRecordEvent]) h

theorem emit_lbit_countersMatchTrace {s : State} (h : CountersMatchTrace s) (p : Nat) (d : Bit) :
    CountersMatchTrace (emit (.lbit p d) (countLb s)) :=
  CountedOutputs.countersMatchTrace (es := [.lbit p d]) (rs := [])
    (by constructor <;> simp [isMarkerEvent, isFrameEvent, isRecordEvent]) h

theorem markerMatch_countersMatchTrace {s : State} (h : CountersMatchTrace s) (first : Nat) :
    CountersMatchTrace (markerMatch first s) :=
  CountedOutputs.countersMatchTrace (es := [.marker first]) (rs := [])
    (by constructor <;> simp [markerMatch, traceBits, traceErrs, isMarkerEvent, isFrameEvent, isRecordEvent]) h

theorem isFrameEvent_excludes {e : Event} (he : isFrameEvent e = true) :
    isDecoderEvent e = false ∧ isMarkerEvent e = false ∧ isRecordEvent e = false := by
  cases e <;> simp [isFrameEvent, isDecoderEvent, isMarkerEvent, isRecordEvent] at he ⊢

/-- A consumed Frame is counted and reported by one of its three events. -/
theorem emit_frameTaken_countersMatchTrace {s : State} (h : CountersMatchTrace s) {e : Event}
    (he : isFrameEvent e = true) : CountersMatchTrace (emit e (frameTaken s)) := by
  obtain ⟨hdecoder, hmarker, hrecord⟩ := isFrameEvent_excludes he
  exact CountedOutputs.countersMatchTrace (es := [e]) (rs := [])
    (by constructor <;> simp [traceBits_classifier hdecoder, traceErrs_classifier hdecoder, he, hmarker, hrecord]) h

/-- INCOMPLETE and DONE have no counter. -/
theorem emit_countersMatchTrace_of_uncounted {s : State} (h : CountersMatchTrace s) {e : Event}
    (he : (∃ f, e = .incomplete f) ∨ e = .done) : CountersMatchTrace (emit e s) := by
  refine CountedOutputs.countersMatchTrace (es := [e]) (rs := []) ?_ h
  obtain ⟨f, rfl⟩ | rfl := he <;>
    constructor <;> simp [traceBits, traceErrs, isMarkerEvent, isFrameEvent, isRecordEvent]

theorem flush_countersMatchTrace {s : State} (h : CountersMatchTrace s) : CountersMatchTrace (flush s) := by
  by_cases hrcd : s.rcd = []
  · rw [flush_empty hrcd]
    exact h
  · rw [flush_nonempty hrcd]
    exact CountedOutputs.countersMatchTrace (es := [.record s.rlen]) (rs := [s.rcd])
      (by constructor <;> simp [traceBits, traceErrs, isMarkerEvent, isFrameEvent, isRecordEvent]) h

theorem enterSearching_countersMatchTrace {s : State} (h : CountersMatchTrace s) :
    CountersMatchTrace (enterSearching s) := h

theorem takeFrame_countersMatchTrace {s : State} (h : CountersMatchTrace s) (w : FrameWord) (q : Nat) :
    CountersMatchTrace (takeFrame w q s) := by
  rcases takeFrame_cases w q s with
    ⟨-, heq⟩ | ⟨-, heq⟩ | ⟨-, -, heq⟩ | ⟨-, -, -, heq⟩ | ⟨-, -, -, heq⟩ <;> rw [heq]
  case inl =>
    exact enterSearching_countersMatchTrace (flush_countersMatchTrace (emit_frameTaken_countersMatchTrace h rfl))
  case inr.inl =>
    exact enterSearching_countersMatchTrace (flush_countersMatchTrace (emit_frameTaken_countersMatchTrace h rfl))
  all_goals exact emit_frameTaken_countersMatchTrace (e := .frameByte q (frameByte w)) h rfl

theorem classifyBit_countersMatchTrace {s : State} (h : CountersMatchTrace s) (d : Bit) (p : Nat) :
    CountersMatchTrace (classifyBit d p s) := by
  rcases classifyBit_cases d p s with
    ⟨-, -, heq⟩ | ⟨-, -, heq⟩ | ⟨-, -, -, heq⟩ | ⟨-, -, heq⟩ | ⟨-, -, heq⟩ <;> rw [heq]
  case inl => exact h
  case inr.inl => exact h
  case inr.inr.inl =>
    have hwindow : CountersMatchTrace (setWindow 0b010#3 3#2 s) := h
    exact markerMatch_countersMatchTrace hwindow _
  case inr.inr.inr.inl => exact h
  case inr.inr.inr.inr => exact takeFrame_countersMatchTrace h _ _

theorem decodeStep_countersMatchTrace {s : State} (h : CountersMatchTrace s) (a b : Bit) :
    CountersMatchTrace (decodeStep a b s) := by
  have hcounted : CountersMatchTrace (countPair s) := h
  rcases decodeStep_split a b s with heq | ⟨d, heq⟩ <;> rw [heq]
  · exact invalidPair_countersMatchTrace hcounted _ _ _
  · have hmoved : CountersMatchTrace (setLs (fmNext s.ls d) (countPair s)) := h
    exact classifyBit_countersMatchTrace (emit_lbit_countersMatchTrace hmoved _ d) d _

theorem sampleAct_countersMatchTrace {s : State} (h : CountersMatchTrace s) (b : Bit) :
    CountersMatchTrace (sampleAct b s) := by
  have hunlatched : CountersMatchTrace (unlatch (countCh s)) := h
  exact sampleAct_keeps h (decodeStep_countersMatchTrace hunlatched s.ha b)

theorem closeRecord_countersMatchTrace {s : State} (h : CountersMatchTrace s) : CountersMatchTrace (closeRecord s) := by
  rcases closeRecord_cases s with ⟨-, heq⟩ | ⟨-, heq⟩ <;> rw [heq]
  · exact flush_countersMatchTrace (emit_countersMatchTrace_of_uncounted h (.inl ⟨_, rfl⟩))
  · exact h

/-- EOS's last writes before DONE touch no counter and no output. -/
theorem setFsm_cleared_countersMatchTrace {s : State} (h : CountersMatchTrace s) (f : Fsm) :
    CountersMatchTrace (setFsm f (setFrame 0#11 0#4 (setWindow 0#3 0#2 s))) := h

theorem eosAct_countersMatchTrace {s : State} (h : CountersMatchTrace s) : CountersMatchTrace (eosAct s) := by
  have hunlatched : CountersMatchTrace (unlatch s) := h
  have hended := setFsm_cleared_countersMatchTrace (closeRecord_countersMatchTrace hunlatched) .done
  exact emit_countersMatchTrace_of_uncounted hended (.inr rfl)

theorem countersMatchTrace_keptByHostMoves : KeptByHostMoves CountersMatchTrace where
  taken _ h := h
  raised _ h := h
  restarted _ := resetWith_countersMatchTrace _ _
  sampled b _ _ h := sampleAct_countersMatchTrace h b
  ended _ _ h := eosAct_countersMatchTrace h

/-- Settles O44, over the host's moves. -/
theorem hostStepsKeepTheCountersOnTheirEvents : Obligations.HostStepsKeepTheCountersOnTheirEvents := by
  unfold Obligations.HostStepsKeepTheCountersOnTheirEvents
  intro s t hfed hcounters h
  exact countersMatchTrace_keptByHostMoves.step hfed hcounters h

end Sys2Proof.Machine

/-! ### The status view (10 R34) -/

namespace Sys2Proof.Machine

open Sys2Proof

/-- A field above `n` bits weighs 2^n. -/
theorem toNat_append_eq_add {m n : Nat} (x : BitVec m) (y : BitVec n) : (x ++ y).toNat = x.toNat * 2 ^ n + y.toNat := by
  rw [BitVec.toNat_append, ← Nat.shiftLeft_add_eq_or_of_lt y.isLt, Nat.shiftLeft_eq]

theorem cfgReg_toNat (s : State) :
    (cfgReg s).toNat = (lineLevel s.cfg.initLineState).toNat + 2 * s.cfg.sinkAttached.toNat := by
  simp only [cfgReg, toNat_append_eq_add, BitVec.toNat_ofBool, BitVec.toNat_ofNat]
  omega

theorem statusWord_toNat (s : State) :
    (statusWord s).toNat = (fsmCode s.fsm).toNat + 4 * (lineLevel s.ls).toNat + 8 * s.hv.toNat + 16 * s.ha.toNat +
      32 * s.wfill.toNat + 128 * s.win.toNat + 1024 * s.ffill.toNat + 65536 * (faultCode s.fault).toNat := by
  simp only [statusWord, toNat_append_eq_add, BitVec.toNat_ofNat]
  omega

theorem frameReg_toNat (s : State) : (frameReg s).toNat = s.frm.toNat := by
  simp only [frameReg, toNat_append_eq_add, BitVec.toNat_ofNat]
  omega

theorem showCounter_unbounded {c : Cfg} (h : c.cntW = none) (n : Nat) : showCounter c n = n := by
  simp [showCounter, h]

theorem showCounter_finite {c : Cfg} {w : Nat} (h : c.cntW = some w) (n : Nat) : showCounter c n = n % 2 ^ w := by
  simp [showCounter, h]

/-- Registers 3 to 9 are the seven counters, in the order of 10 R34. -/
theorem statusReg_counters (s : State) :
    statusReg s 3#8 = showCounter s.cfg s.nCh ∧ statusReg s 4#8 = showCounter s.cfg s.nPair ∧
      statusReg s 5#8 = showCounter s.cfg s.nErr ∧ statusReg s 6#8 = showCounter s.cfg s.nLb ∧
      statusReg s 7#8 = showCounter s.cfg s.nMark ∧ statusReg s 8#8 = showCounter s.cfg s.nFrame ∧
      statusReg s 9#8 = showCounter s.cfg s.nRec :=
  ⟨rfl, rfl, rfl, rfl, rfl, rfl, rfl⟩

theorem statusReg_recordLength {s : State} (h : s.rcd.length ≤ Config.maxRecCap) :
    statusReg s 10#8 = s.rcd.length := Nat.mod_eq_of_lt (Nat.lt_succ_of_le h)

theorem statusReg_recordCapacity {s : State} (h : s.cfg.recCap ≤ Config.maxRecCap) :
    statusReg s 11#8 = s.cfg.recCap := Nat.mod_eq_of_lt (Nat.lt_succ_of_le h)

theorem statusReg_reserved (s : State) {r : Byte} (h : 12 ≤ r.toNat) : statusReg s r = 0 := by
  unfold statusReg
  split
  case h_13 => rfl
  all_goals omega

/-- Settles O52, register by register. -/
theorem statusViewShowsTheRegisters : Obligations.StatusViewShowsTheRegisters := by
  unfold Obligations.StatusViewShowsTheRegisters
  intro s
  obtain ⟨hch, hpair, herr, hlb, hmark, hframe, hrec⟩ := statusReg_counters s
  refine ⟨cfgReg_toNat s, statusWord_toNat s, ⟨rfl, rfl⟩, ⟨rfl, rfl, rfl⟩, ⟨rfl, rfl, rfl, rfl⟩, frameReg_toNat s,
    fun hcnt => ?_, statusReg_recordLength, statusReg_recordCapacity, fun w hcnt => ?_,
    fun r hr => statusReg_reserved s hr, fun r v => rfl⟩
  · rw [hch, hpair, herr, hlb, hmark, hframe, hrec]
    simp only [showCounter_unbounded hcnt, and_self]
  · rw [hch, hpair, herr, hlb, hmark, hframe, hrec]
    simp only [showCounter_finite hcnt, and_self]

end Sys2Proof.Machine

/-! ### The step and the reset state (10 R21, R23, R36) -/

namespace Sys2Proof.Machine

open Sys2Proof

/-- Settles O35, by the definition of the step. -/
theorem stepRunsTheDecodedInstruction : Obligations.StepRunsTheDecodedInstruction := by
  unfold Obligations.StepRunsTheDecodedInstruction
  intro s w ws i hinput hdecode
  have hfetch : fetch s = some (w, setInput ws s) := by simp only [fetch, hinput]
  simp only [step, hfetch, hdecode]
  rfl

theorem resetWith_parityLaw (c : Cfg) (ws : List FormatWord) : ParityLaw (State.resetWith c ws) := rfl

theorem resetWith_sinkSound (c : Cfg) (ws : List FormatWord) : SinkSound (State.resetWith c ws) := ⟨nofun, rfl⟩

theorem resetWith_recordsFit (c : Cfg) (ws : List FormatWord) : RecordsFit (State.resetWith c ws) := nofun

/-- Settles O40, from each invariant's own lemma about the state RESET makes. -/
theorem resetStateMeetsTheInvariants : Obligations.ResetStateMeetsTheInvariants := by
  unfold Obligations.ResetStateMeetsTheInvariants
  have hfed : HostFed State.reset := nofun
  exact ⟨fun c ws => ⟨resetWith_reachable c ws, resetWith_positionsOk c ws, resetWith_windowsClean c ws,
    resetWith_countersMatchTrace c ws, resetWith_parityLaw c ws, resetWith_sinkSound c ws,
    resetWith_recordsFit c ws⟩, rfl, hfed⟩

end Sys2Proof.Machine

/-! ### The sink port and the TAP stream (20 R54, 60 R231)

Only a flush hands a Record on, and it writes the Record to both outputs at once. -/

namespace Sys2Proof.Machine

open Sys2Proof

/-- What writes neither output keeps the property. -/
theorem sinkSound_of_same {s t : State} (h : SinkSound s) (hsink : t.sink = s.sink) (htap : t.tap = s.tap) :
    SinkSound t := by
  rw [SinkSound, hsink, htap]
  exact h

/-- A Record handed on reaches the sink port and, serialised, the TAP stream (20 R54). -/
theorem recOut_sinkSound {s : State} (h : SinkSound s) {r : Record} (hr : r ≠ []) : SinkSound (recOut r s) := by
  obtain ⟨hnonempty, htap⟩ := h
  constructor
  · rw [recOut_sink, List.forall_mem_append]
    exact ⟨hnonempty, by simpa using hr⟩
  · rw [recOut_tap, recOut_sink, tapStream_append, htap]
    simp [tapStream]

/-- FLUSH hands on a Record only when it is not empty (42 R160). -/
theorem flush_sinkSound {s : State} (h : SinkSound s) : SinkSound (flush s) := by
  by_cases hrcd : s.rcd = []
  · rw [flush_empty hrcd]
    exact h
  · rw [flush_nonempty hrcd]
    exact sinkSound_of_same (recOut_sinkSound h hrcd) (by simp) (by simp)

theorem enterSearching_sinkSound {s : State} (h : SinkSound s) : SinkSound (enterSearching s) :=
  sinkSound_of_same h (by simp) (by simp)

/-- A Frame's outcome flushes, or leaves both outputs alone. -/
theorem takeFrame_sinkSound {s : State} (h : SinkSound s) (w : FrameWord) (q : Nat) : SinkSound (takeFrame w q s) := by
  have hemitted (e : Event) : SinkSound (emit e (frameTaken s)) := h
  rcases takeFrame_cases w q s with
    ⟨-, heq⟩ | ⟨-, heq⟩ | ⟨-, -, heq⟩ | ⟨-, -, -, heq⟩ | ⟨-, -, -, heq⟩ <;> rw [heq]
  case inl => exact enterSearching_sinkSound (flush_sinkSound (hemitted _))
  case inr.inl => exact enterSearching_sinkSound (flush_sinkSound (hemitted _))
  all_goals exact sinkSound_of_same (hemitted (.frameByte q (frameByte w))) (by simp) (by simp)

theorem markerMatch_sinkSound {s : State} (h : SinkSound s) (first : Nat) : SinkSound (markerMatch first s) :=
  sinkSound_of_same h (by simp [markerMatch]) (by simp [markerMatch])

theorem classifyBit_sinkSound {s : State} (h : SinkSound s) (d : Bit) (p : Nat) : SinkSound (classifyBit d p s) := by
  rcases classifyBit_cases d p s with
    ⟨-, -, heq⟩ | ⟨-, -, heq⟩ | ⟨-, -, -, heq⟩ | ⟨-, -, heq⟩ | ⟨-, -, heq⟩ <;> rw [heq]
  case inl => exact h
  case inr.inl => exact sinkSound_of_same h (by simp) (by simp)
  case inr.inr.inl => exact markerMatch_sinkSound (sinkSound_of_same h (by simp) (by simp)) _
  case inr.inr.inr.inl => exact sinkSound_of_same h (by simp) (by simp)
  case inr.inr.inr.inr => exact takeFrame_sinkSound h _ _

theorem decodeStep_sinkSound {s : State} (h : SinkSound s) (a b : Bit) : SinkSound (decodeStep a b s) := by
  rcases decodeStep_split a b s with heq | ⟨d, heq⟩ <;> rw [heq]
  · exact h
  · have htaken : SinkSound (bitTaken d s) := h
    exact classifyBit_sinkSound htaken d _

theorem sampleAct_sinkSound {s : State} (h : SinkSound s) (b : Bit) : SinkSound (sampleAct b s) := by
  have hunlatched : SinkSound (unlatch (countCh s)) := h
  exact sampleAct_keeps h (decodeStep_sinkSound hunlatched s.ha b)

theorem closeRecord_sinkSound {s : State} (h : SinkSound s) : SinkSound (closeRecord s) := by
  rcases closeRecord_cases s with ⟨-, heq⟩ | ⟨-, heq⟩ <;> rw [heq]
  · have hemitted : SinkSound (emit (.incomplete s.ffill.toNat) s) := h
    exact flush_sinkSound hemitted
  · exact h

/-- EOS writes both outputs only by closing the Record. -/
theorem eosAct_sinkSound {s : State} (h : SinkSound s) : SinkSound (eosAct s) := by
  have hunlatched : SinkSound (unlatch s) := h
  exact sinkSound_of_same (closeRecord_sinkSound hunlatched) (by simp [eosAct]) (by simp [eosAct])

theorem sinkSound_keptByHostMoves : KeptByHostMoves SinkSound where
  taken _ h := h
  raised _ h := h
  restarted _ := resetWith_sinkSound _ _
  sampled b _ _ h := sampleAct_sinkSound h b
  ended _ _ h := eosAct_sinkSound h

/-- Settles O45, over the host's moves. -/
theorem hostStepsKeepTheSinkSound : Obligations.HostStepsKeepTheSinkSound := by
  unfold Obligations.HostStepsKeepTheSinkSound
  intro s t hfed hsound h
  exact sinkSound_keptByHostMoves.step hfed hsound h

end Sys2Proof.Machine

/-! ### The observation and the order of events (20 R63, 40 R105) -/

namespace Sys2Proof.Machine

open Sys2Proof

/-- At most one of two events of different kinds is of the kind read, so their order does not show in that reading. -/
theorem eventsOfKind_swap {e f : Event} (h : eventKind e ≠ eventKind f) (k : EventKind) (l : List Event) :
    eventsOfKind k (e :: f :: l) = eventsOfKind k (f :: e :: l) := by
  by_cases he : eventKind e = k
  · have hf : eventKind f ≠ k := fun hf => h (he.trans hf.symm)
    rw [eventsOfKind_cons_same he, eventsOfKind_cons_other hf, eventsOfKind_cons_other hf, eventsOfKind_cons_same he]
  · by_cases hf : eventKind f = k
    · rw [eventsOfKind_cons_other he, eventsOfKind_cons_same hf, eventsOfKind_cons_same hf, eventsOfKind_cons_other he]
    · simp only [eventsOfKind_cons_other he, eventsOfKind_cons_other hf]

theorem perKind_swap {e f : Event} (h : eventKind e ≠ eventKind f) (xs ys : List Event) :
    perKind (xs ++ e :: f :: ys) = perKind (xs ++ f :: e :: ys) := by
  refine List.map_congr_left fun k _ => ?_
  rw [eventsOfKind_append, eventsOfKind_append, eventsOfKind_swap h]

/-- The status view shows nothing of the trace (10 R34). -/
theorem statusReg_withTrace (s : State) (t : List Event) (r : Byte) :
    statusReg { s with trace := t } r = statusReg s r := rfl

/-- The observation reads the trace per kind only. -/
theorem observe_withTrace (s : State) (t : List Event) :
    observe { s with trace := t } = { observe s with events := perKind t } := by
  simp only [observe, statusReg_withTrace]

/-- Settles O57: the trace read per kind is the same, and nothing else observed reads the trace. -/
theorem observationIgnoresTheInterleavingOfKinds : Obligations.ObservationIgnoresTheInterleavingOfKinds := by
  unfold Obligations.ObservationIgnoresTheInterleavingOfKinds
  intro s xs ys e f h
  rw [observe_withTrace s (xs ++ e :: f :: ys), perKind_swap h, ← observe_withTrace s (xs ++ f :: e :: ys)]

end Sys2Proof.Machine

/-! ### The formats read back (30 R70 to R78, 60 R220)

For each format one lemma per direction: the encoded word decodes to its row, and a word that decodes is the word of a
well-formed row. The two directions meet in the fields: a bit, a byte and a 32-bit length are each determined by the
natural that stands for them. -/

namespace Sys2Proof

open Sys2Proof.Machine

/-! #### Wire words, pairs and characters -/

/-- Every row of the wire word holds its operand at every value. -/
theorem wellFormed_of_decodeInSym {w : BitVec 4} {i : Instr} (h : decodeInSym w = .ok i) : i.WellFormed := by
  unfold decodeInSym at h
  split_ifs at h <;> cases h <;> rfl

theorem decodeInSym_sample (b : Bit) : decodeInSym (0b001#3 ++ b) = .ok (.sample b) := by
  rcases bit_cases b with rfl | rfl <;> rfl

theorem decodeFmPair_lowInvalid (b : Bit) : decodeFmPair (pairWord 0#1 0#1 b) = .fmLowInvalid b := by
  rcases bit_cases b with rfl | rfl <;> rfl

theorem decodeFmPair_highInvalid (b : Bit) : decodeFmPair (pairWord 1#1 1#1 b) = .fmHighInvalid b := by
  rcases bit_cases b with rfl | rfl <;> rfl

/-- The six pair rows share out the eight words (30 R71). -/
theorem encode_decodeFmPair (w : BitVec 3) :
    (decodeFmPair w).WellFormed ∧ encode (decodeFmPair w) = .fmPair w := by
  revert w; decide

theorem decodeText_other {c : Byte} (h0 : c ≠ 0x30#8) (h1 : c ≠ 0x31#8) : decodeText c = .textOther c := by
  simp [decodeText, h0, h1]

theorem encode_decodeText (c : Byte) : (decodeText c).WellFormed ∧ encode (decodeText c) = .textIn c := by
  by_cases h0 : c = 0x30#8
  · subst h0; decide
  · by_cases h1 : c = 0x31#8
    · subst h1; decide
    · rw [decodeText_other h0 h1]
      exact ⟨by simp [Instr.WellFormed, Instr.wf, h0, h1], rfl⟩

/-! #### Frames -/

theorem frameClass_eq_endMark_iff {w : FrameWord} : frameClass w = .endMark ↔ w = Config.endFrame := by
  unfold frameClass
  split_ifs <;> simp_all

/-- The END word's trailer is 111, so the trailer alone tells DATA. -/
theorem frameClass_eq_data_iff {w : FrameWord} : frameClass w = .data ↔ frameTrailer w = Config.marker := by
  have hend : frameTrailer Config.endFrame ≠ Config.marker := by decide
  unfold frameClass
  split_ifs with h <;> simp_all

theorem decodeFrame_end (q : Nat) : decodeFrame Config.endFrame q = .frameEnd q := by
  simp [decodeFrame, frameClass_end]

theorem decodeFrame_frameOfByte (v : Byte) (q : Nat) : decodeFrame (frameOfByte v) q = .frameData v q := by
  simp [decodeFrame, frameClass_data, frameByte_frameOfByte]

theorem decodeFrame_violation {w : FrameWord} (h : frameClass w = .violation) (q : Nat) :
    decodeFrame w q = .frameViolation w q := by
  simp [decodeFrame, h]

theorem encode_decodeFrame (w : FrameWord) (q : Nat) :
    (decodeFrame w q).WellFormed ∧ encode (decodeFrame w q) = .frame w q := by
  cases h : frameClass w with
  | endMark =>
    obtain rfl := frameClass_eq_endMark_iff.mp h
    rw [decodeFrame_end]
    exact ⟨rfl, rfl⟩
  | data =>
    rw [← frameOfByte_frameByte h, decodeFrame_frameOfByte]
    exact ⟨rfl, rfl⟩
  | violation =>
    rw [decodeFrame_violation h]
    exact ⟨by simp [Instr.WellFormed, Instr.wf, h], rfl⟩

/-! #### Events -/

/-- A field that is one bit reads exactly the naturals that stand for a bit. -/
theorem fieldBit_eq_some_iff {n : Nat} {b : Bit} : fieldBit n = some b ↔ b.toNat = n := by
  unfold fieldBit
  split_ifs with h
  · rw [Option.some_inj, ← BitVec.toNat_inj, BitVec.toNat_ofNat, Nat.mod_eq_of_lt h, eq_comm]
  · have hlt : b.toNat < 2 := b.isLt
    simp only [false_iff]
    omega

/-- A field that is one byte reads exactly the naturals that stand for a byte. -/
theorem fieldByte_eq_some_iff {n : Nat} {v : Byte} : fieldByte n = some v ↔ v.toNat = n := by
  unfold fieldByte
  split_ifs with h
  · rw [Option.some_inj, ← BitVec.toNat_inj, BitVec.toNat_ofNat, Nat.mod_eq_of_lt h, eq_comm]
  · have hlt : v.toNat < 256 := v.isLt
    simp only [false_iff]
    omega

theorem fieldBit_toNat (b : Bit) : fieldBit b.toNat = some b := fieldBit_eq_some_iff.mpr rfl

theorem fieldByte_toNat (v : Byte) : fieldByte v.toNat = some v := fieldByte_eq_some_iff.mpr rfl

/-- A word is an event's exactly if its code is in range and its fields are those of the code (30 R78). -/
theorem decodeEvent_eq_ok_iff {code : Byte} {fields : List Nat} {i : Instr} :
    decodeEvent code fields = .ok i ↔
      (1 ≤ code.toNat ∧ code.toNat ≤ 9) ∧ decodeEventFields code fields = some i := by
  unfold decodeEvent
  by_cases hcode : 1 ≤ code.toNat ∧ code.toNat ≤ 9
  · cases hfields : decodeEventFields code fields <;> simp [hcode]
  · simp [hcode]

/-- The nine event codes (30 R78). -/
theorem eventCode_cases {code : Byte} (hpos : 1 ≤ code.toNat) (hle : code.toNat ≤ 9) :
    code = 0x01#8 ∨ code = 0x02#8 ∨ code = 0x03#8 ∨ code = 0x04#8 ∨ code = 0x05#8 ∨ code = 0x06#8 ∨ code = 0x07#8 ∨
      code = 0x08#8 ∨ code = 0x09#8 := by
  bv_omega

/-- Each code's fields read back (30 R78): their number is the event's, and each is determined by its natural. -/
theorem encode_of_decodeEventFields {code : Byte} {fields : List Nat} {i : Instr} (hpos : 1 ≤ code.toNat)
    (hle : code.toNat ≤ 9) (h : decodeEventFields code fields = some i) :
    i.WellFormed ∧ encode i = .event code fields := by
  -- One case for each code with the fields of its event; any other number of fields is no event.
  rcases eventCode_cases hpos hle with rfl | rfl | rfl | rfl | rfl | rfl | rfl | rfl | rfl <;>
    simp only [decodeEventFields, BitVec.reduceEq, ↓reduceIte] at h <;> (split at h; swap; · cases h)
  · obtain ⟨d, hd, rfl⟩ := Option.map_eq_some_iff.mp h
    obtain rfl := fieldBit_eq_some_iff.mp hd
    exact ⟨rfl, rfl⟩
  · obtain ⟨a, ha, h⟩ := Option.bind_eq_some_iff.mp h
    obtain ⟨b, hb, rfl⟩ := Option.map_eq_some_iff.mp h
    obtain rfl := fieldBit_eq_some_iff.mp ha
    obtain rfl := fieldBit_eq_some_iff.mp hb
    exact ⟨rfl, rfl⟩
  · cases h
    exact ⟨rfl, rfl⟩
  · obtain ⟨v, hv, rfl⟩ := Option.map_eq_some_iff.mp h
    obtain rfl := fieldByte_eq_some_iff.mp hv
    exact ⟨rfl, rfl⟩
  · cases h
    exact ⟨rfl, rfl⟩
  · obtain ⟨t0, ht0, h⟩ := Option.bind_eq_some_iff.mp h
    obtain ⟨t1, ht1, h⟩ := Option.bind_eq_some_iff.mp h
    obtain ⟨t2, ht2, rfl⟩ := Option.map_eq_some_iff.mp h
    obtain rfl := fieldBit_eq_some_iff.mp ht0
    obtain rfl := fieldBit_eq_some_iff.mp ht1
    obtain rfl := fieldBit_eq_some_iff.mp ht2
    exact ⟨rfl, rfl⟩
  · obtain ⟨hf, heq⟩ := Option.ite_none_right_eq_some.mp h
    cases heq
    exact ⟨decide_eq_true hf, rfl⟩
  · obtain ⟨hn, heq⟩ := Option.ite_none_right_eq_some.mp h
    cases heq
    exact ⟨decide_eq_true hn, rfl⟩
  · cases h
    exact ⟨rfl, rfl⟩

theorem encode_of_decodeEvent {code : Byte} {fields : List Nat} {i : Instr} (h : decodeEvent code fields = .ok i) :
    i.WellFormed ∧ encode i = .event code fields := by
  obtain ⟨⟨hpos, hle⟩, hfields⟩ := decodeEvent_eq_ok_iff.mp h
  exact encode_of_decodeEventFields hpos hle hfields

/-! #### Serialised Records -/

/-- The number four little-endian bytes stand for is below 2^32 (30 R77). -/
theorem ofLe32_le (b0 b1 b2 b3 : Byte) : ofLe32 b0 b1 b2 b3 ≤ Config.maxRecCap := by
  have h0 := b0.isLt
  have h1 := b1.isLt
  have h2 := b2.isLt
  have h3 := b3.isLt
  simp only [ofLe32, Config.maxRecCap]
  omega

/-- Four bytes are the four base-256 digits of their number. -/
theorem le32_ofLe32 (b0 b1 b2 b3 : Byte) : le32 (ofLe32 b0 b1 b2 b3) = [b0, b1, b2, b3] := by
  have h0 := b0.isLt
  have h1 := b1.isLt
  have h2 := b2.isLt
  have h3 := b3.isLt
  simp only [le32, ofLe32, List.cons.injEq, ← BitVec.toNat_inj, BitVec.toNat_ofNat, and_true]
  refine ⟨?_, ?_, ?_, ?_⟩ <;> omega

/-- A length that fits its 32-bit field is the number its four bytes stand for. -/
theorem exists_le32_eq {n : Nat} (h : n ≤ Config.maxRecCap) :
    ∃ b0 b1 b2 b3, le32 n = [b0, b1, b2, b3] ∧ ofLe32 b0 b1 b2 b3 = n := by
  refine ⟨_, _, _, _, rfl, ?_⟩
  simp only [Config.maxRecCap] at h
  simp only [ofLe32, BitVec.toNat_ofNat]
  omega

/-- A `tap_record` is exactly a serialised Record of 1 to 2^32 − 1 bytes (30 R77). -/
theorem decodeTap_eq_ok_iff {bytes : List Byte} {i : Instr} :
    decodeTap bytes = .ok i ↔ ∃ p : Record, i = .tapRecord p ∧ 1 ≤ p.length ∧ p.length ≤ Config.maxRecCap ∧
      bytes = le32 p.length ++ p ++ le32 p.length := by
  constructor
  · intro h
    unfold decodeTap at h
    split at h
    · rename_i b0 b1 b2 b3 rest
      simp only at h
      split_ifs at h with hframe
      cases h
      obtain ⟨hpos, hlen, hdrop⟩ := hframe
      have htake : (rest.take (ofLe32 b0 b1 b2 b3)).length = ofLe32 b0 b1 b2 b3 :=
        List.length_take_of_le (by omega)
      have hrest : rest.take (ofLe32 b0 b1 b2 b3) ++ [b0, b1, b2, b3] = rest := hdrop ▸ List.take_append_drop _ rest
      refine ⟨_, rfl, htake.symm ▸ hpos, htake.symm ▸ ofLe32_le b0 b1 b2 b3, ?_⟩
      rw [htake, le32_ofLe32, List.append_assoc, hrest]
      rfl
    · cases h
  · rintro ⟨p, rfl, hpos, hle, rfl⟩
    obtain ⟨b0, b1, b2, b3, hbytes, hn⟩ := exists_le32_eq hle
    rw [hbytes]
    simp [decodeTap, hn, hpos, Config.lenBytes]

/-! #### All formats -/

/-- Settles O32, row by row: each format's word reads back. -/
theorem decodeOfEncodeIsTheInstruction : Obligations.DecodeOfEncodeIsTheInstruction := by
  unfold Obligations.DecodeOfEncodeIsTheInstruction
  intro i hwf
  cases i with
  | sample b => exact decodeInSym_sample b
  | eos => rfl
  | reset => rfl
  | fmLow11 => rfl
  | fmLow10 => rfl
  | fmHigh00 => rfl
  | fmHigh01 => rfl
  | fmLowInvalid b => exact congrArg _ (decodeFmPair_lowInvalid b)
  | fmHighInvalid b => exact congrArg _ (decodeFmPair_highInvalid b)
  | syncMarker first => rfl
  | frameEnd q => exact congrArg _ (decodeFrame_end q)
  | frameData v q => exact congrArg _ (decodeFrame_frameOfByte v q)
  | frameViolation w q => exact congrArg _ (decodeFrame_violation (of_decide_eq_true hwf) q)
  | text0 => rfl
  | text1 => rfl
  | textOther c =>
    obtain ⟨h0, h1⟩ : c ≠ 0x30#8 ∧ c ≠ 0x31#8 := by simpa [Instr.WellFormed, Instr.wf] using hwf
    exact congrArg _ (decodeText_other h0 h1)
  | evLbit p d =>
    exact decodeEvent_eq_ok_iff.mpr ⟨by decide, congrArg (Option.map (Instr.evLbit p)) (fieldBit_toNat d)⟩
  | evPairErr k a b =>
    have hfields : decodeEventFields 0x02#8 [k, a.toNat, b.toNat] = some (.evPairErr k a b) :=
      Option.bind_eq_some_iff.mpr ⟨a, fieldBit_toNat a, congrArg (Option.map (Instr.evPairErr k a)) (fieldBit_toNat b)⟩
    exact decodeEvent_eq_ok_iff.mpr ⟨by decide, hfields⟩
  | evMarker p => rfl
  | evFrameByte p v =>
    exact decodeEvent_eq_ok_iff.mpr ⟨by decide, congrArg (Option.map (Instr.evFrameByte p)) (fieldByte_toNat v)⟩
  | evFrameEnd p => rfl
  | evSyncViol p t0 t1 t2 =>
    have hfields : decodeEventFields 0x06#8 [p, t0.toNat, t1.toNat, t2.toNat] = some (.evSyncViol p t0 t1 t2) :=
      Option.bind_eq_some_iff.mpr ⟨t0, fieldBit_toNat t0, Option.bind_eq_some_iff.mpr ⟨t1, fieldBit_toNat t1,
        congrArg (Option.map (Instr.evSyncViol p t0 t1)) (fieldBit_toNat t2)⟩⟩
    exact decodeEvent_eq_ok_iff.mpr ⟨by decide, hfields⟩
  | evIncomplete f =>
    have hf : f ≤ 10 := of_decide_eq_true hwf
    exact decodeEvent_eq_ok_iff.mpr ⟨by decide, if_pos hf⟩
  | evRecord n =>
    have hn : 1 ≤ n := of_decide_eq_true hwf
    exact decodeEvent_eq_ok_iff.mpr ⟨by decide, if_pos hn⟩
  | evDone => rfl
  | tapRecord p =>
    obtain ⟨hpos, hle⟩ : 1 ≤ p.length ∧ p.length ≤ Config.maxRecCap := by
      simpa only [Instr.WellFormed, Instr.wf, Bool.and_eq_true, decide_eq_true_eq] using hwf
    exact decodeTap_eq_ok_iff.mpr ⟨p, rfl, hpos, hle, rfl⟩

/-- Settles O33, format by format. -/
theorem decodedWordsEncodeBack : Obligations.DecodedWordsEncodeBack := by
  unfold Obligations.DecodedWordsEncodeBack
  intro w i h
  cases w with
  | inSym w => exact ⟨wellFormed_of_decodeInSym h, fun hformat => absurd rfl hformat⟩
  | fmPair w =>
    cases h
    exact (encode_decodeFmPair w).imp_right fun hencode _ => hencode
  | syncMarker w first =>
    simp only [decode] at h
    split_ifs at h with hw
    cases h
    exact ⟨rfl, fun _ => hw ▸ rfl⟩
  | frame w q =>
    cases h
    exact (encode_decodeFrame w q).imp_right fun hencode _ => hencode
  | textIn c =>
    cases h
    exact (encode_decodeText c).imp_right fun hencode _ => hencode
  | event code fields => exact (encode_of_decodeEvent h).imp_right fun hencode _ => hencode
  | tapRecord bytes =>
    obtain ⟨p, rfl, hpos, hle, rfl⟩ := decodeTap_eq_ok_iff.mp h
    exact ⟨by simp [Instr.WellFormed, Instr.wf, hpos, hle], fun _ => rfl⟩

end Sys2Proof

/-! ### A Frame's byte and class from its bits (30 R74 to R76) -/

namespace Sys2Proof.Machine

open Sys2Proof

theorem frameBit_toNat (w : FrameWord) (i : Nat) : (frameBit w i).toNat = w.toNat / 2 ^ i % 2 := by
  simp [frameBit, Nat.shiftRight_eq_div_pow]

theorem frameByte_toNat (w : FrameWord) : (frameByte w).toNat = w.toNat % 256 := by
  simp [frameByte]

/-- A byte is the sum of its binary digits, and a Frame's byte is the low eight bits of W. -/
theorem frameByte_eq_sum (w : FrameWord) :
    (frameByte w).toNat = ((List.range 8).map fun i => (frameBit w i).toNat * 2 ^ i).sum := by
  simp only [frameByte_toNat, frameBit_toNat, List.range_succ, List.range_zero, List.map_append, List.map_cons,
    List.map_nil, List.sum_append, List.sum_cons, List.sum_nil, List.nil_append]
  omega

theorem frameBit_eq_one_iff {w : FrameWord} {i : Nat} : frameBit w i = 1#1 ↔ w.getLsbD i = true := by
  rw [← BitVec.toNat_inj, frameBit_toNat, BitVec.getLsbD, Nat.testBit_eq_decide_div_mod_eq, decide_eq_true_eq]
  rfl

/-- The END word is eleven 1s (30 R75). -/
theorem eq_endFrame_iff {w : FrameWord} : w = Config.endFrame ↔ ∀ i < 11, frameBit w i = 1#1 := by
  constructor
  · rintro rfl
    decide
  · intro h
    have hones : Config.endFrame = BitVec.allOnes 11 := by decide
    rw [hones]
    refine BitVec.eq_of_getLsbD_eq fun i hi => ?_
    rw [frameBit_eq_one_iff.mp (h i hi), BitVec.getLsbD_allOnes, decide_eq_true hi]

/-- The trailer's bits are W[8], W[9], W[10], the earliest lowest (30 R74). -/
theorem frameTrailer_eq_marker_iff {w : FrameWord} :
    frameTrailer w = Config.marker ↔ frameBit w 8 = 0#1 ∧ frameBit w 9 = 1#1 ∧ frameBit w 10 = 0#1 := by
  have htrailer : (frameTrailer w).toNat = w.toNat / 256 := by
    have := w.isLt
    simp [frameTrailer, Nat.shiftRight_eq_div_pow]
    omega
  simp only [← BitVec.toNat_inj, htrailer, frameBit_toNat, BitVec.toNat_ofNat, Config.marker]
  have := w.isLt
  omega

theorem frameClass_eq_violation_iff {w : FrameWord} :
    frameClass w = .violation ↔ frameClass w ≠ .endMark ∧ frameClass w ≠ .data := by
  cases frameClass w <;> simp

/-- Settles O47. -/
theorem frameByteAndClassFromItsBits : Obligations.FrameByteAndClassFromItsBits := by
  unfold Obligations.FrameByteAndClassFromItsBits
  intro w
  exact ⟨frameByte_eq_sum w, frameClass_eq_endMark_iff.trans eq_endFrame_iff,
    frameClass_eq_data_iff.trans frameTrailer_eq_marker_iff, frameClass_eq_violation_iff⟩

/-- Settles O34: the words are closed, and the decoder computes. -/
theorem tableWordsDecodeToTheirRows : Obligations.TableWordsDecodeToTheirRows := by
  unfold Obligations.TableWordsDecodeToTheirRows
  decide

end Sys2Proof.Machine

/-! ### The rows' guards: what runs, what is refused, what faults (30 R71, R79; 42 R140; 60 R206) -/

namespace Sys2Proof.Machine

open Sys2Proof Sys2Proof.Claims

/-- SAMPLE and the two characters are one operation (60 R220). -/
theorem exec_of_sampleOf {i : Instr} {b : Bit} (h : sampleOf i = some b) (s : State) : exec i s = takeSample b s := by
  cases i <;> cases h <;> rfl

/-- The rows the stages decode inside a step run behind one guard (40 R104, log entry 6). -/
theorem exec_eq_withinStep {i : Instr} (h : i.format = .fmPair ∨ i.format = .syncMarker ∨ i.format = .frame) :
    ∃ act, ∀ s, exec i s = withinStep act s := by
  cases i with
  | fmLow11 => exact ⟨_, fun _ => rfl⟩
  | fmLow10 => exact ⟨_, fun _ => rfl⟩
  | fmHigh00 => exact ⟨_, fun _ => rfl⟩
  | fmHigh01 => exact ⟨_, fun _ => rfl⟩
  | fmLowInvalid b => exact ⟨_, fun _ => rfl⟩
  | fmHighInvalid b => exact ⟨_, fun _ => rfl⟩
  | syncMarker first => exact ⟨_, fun _ => rfl⟩
  | frameEnd q => exact ⟨_, fun _ => rfl⟩
  | frameData v q => exact ⟨_, fun _ => rfl⟩
  | frameViolation w q => exact ⟨_, fun _ => rfl⟩
  | _ => simp [Instr.format] at h

/-- The row of a valid pair is the pair whose first sample leaves the line state's level and whose second is that level
moved by the LogicalBit (30 R71, R72). -/
theorem exec_validRow (l : LineState) (d : Bit) (s : State) :
    exec (validRow l d) s = takePair l (~~~lineLevel l) (lineLevel l ^^^ d) s := by
  cases l <;> rcases bit_cases d with rfl | rfl <;> rfl

/-- The row of an invalid pair is the pair whose first sample repeats the line state's level (30 R71). -/
theorem exec_invalidRow (l : LineState) (b : Bit) (s : State) :
    exec (invalidRow l b) s = takePair l (lineLevel l) b s := by
  cases l <;> rfl

theorem exec_eventInstr (e : Event) (s : State) : exec (eventInstr e) s = output e s := by
  cases e <;> rfl

/-- Settles O25: the symbols by the guard of SAMPLE and EOS, the rows inside a step by theirs. -/
theorem statesOutsideTheInvariantFault : Obligations.StatesOutsideTheInvariantFault := by
  unfold Obligations.StatesOutsideTheInvariantFault
  intro i s hfault
  constructor
  · intro hsymbol hreach
    have hout : reachable s = false := Bool.eq_false_of_not_eq_true hreach
    obtain hsample | rfl := hsymbol
    · obtain ⟨b, hb⟩ := Option.isSome_iff_exists.mp hsample
      rw [exec_of_sampleOf hb]
      exact takeSymbol_outside hfault hout
    · exact takeSymbol_outside hfault hout
  · intro hformat hregs
    obtain ⟨act, hact⟩ := exec_eq_withinStep hformat
    rw [hact]
    exact withinStep_outside hfault (Bool.eq_false_of_not_eq_true hregs)

/-- Settles O26: the pair rows by the guard on LS, the frame rows by the guard on FSM. -/
theorem wordsOfAnotherStateAreRefused : Obligations.WordsOfAnotherStateAreRefused := by
  unfold Obligations.WordsOfAnotherStateAreRefused
  intro l d v w q s hfault hregs
  constructor
  · intro hdone hls
    rw [exec_validRow, exec_invalidRow]
    exact ⟨takePair_differs hfault hregs hdone hls, takePair_differs hfault hregs hdone hls⟩
  · intro hrec
    have hrefused (w : FrameWord) : takeFrameWord w q s = .refused .frameOutsideRecord :=
      takeFrameWord_outside hfault hregs hrec
    exact ⟨hrefused Config.endFrame, hrefused (frameOfByte v), hrefused w⟩

/-- Settles O19: every event row is the emission of its event. -/
theorem eventRowsOnlyEmit : Obligations.EventRowsOnlyEmit := by
  unfold Obligations.EventRowsOnlyEmit
  intro e s hfault
  rw [exec_eventInstr]
  exact output_normal hfault

end Sys2Proof.Machine

/-! ### The Records at the sink (30 R80, R70)

Only a flush hands a Record on, and the open Record is within rec_cap by 10 R35, so what reaches the sink is. -/

namespace Sys2Proof.Machine

open Sys2Proof

/-- What writes neither the sink nor the configuration keeps the bound. -/
theorem recordsFit_of_same {s t : State} (h : RecordsFit s) (hsink : t.sink = s.sink) (hcfg : t.cfg = s.cfg) :
    RecordsFit t := by
  rw [RecordsFit, hsink, hcfg]
  exact h

theorem rcd_length_le_of_regsOk {s : State} (h : RegsOk s) : s.rcd.length ≤ s.cfg.recCap := by
  obtain ⟨-, -, -, -, -, -, hcap, -⟩ := (regsOk_iff s).mp h
  exact hcap

theorem flush_recordsFit {s : State} (h : RecordsFit s) (hcap : s.rcd.length ≤ s.cfg.recCap) :
    RecordsFit (flush s) := by
  by_cases hrcd : s.rcd = []
  · rw [flush_empty hrcd]
    exact h
  · rw [flush_nonempty hrcd]
    have hdelivered : RecordsFit (recOut s.rcd s) := by
      rw [RecordsFit, recOut_sink, recOut_cfg, List.forall_mem_append, List.forall_mem_singleton]
      exact ⟨h, hcap⟩
    exact recordsFit_of_same hdelivered (by simp) (by simp)

/-- A Frame's outcome flushes the Record it found, or leaves the sink alone. -/
theorem takeFrame_recordsFit {s : State} (h : RecordsFit s) (hcap : s.rcd.length ≤ s.cfg.recCap) (w : FrameWord)
    (q : Nat) : RecordsFit (takeFrame w q s) := by
  have hflushed (e : Event) : RecordsFit (flush (emit e (frameTaken s))) := flush_recordsFit h hcap
  have hclosed (e : Event) : RecordsFit (enterSearching (flush (emit e (frameTaken s)))) :=
    recordsFit_of_same (hflushed e) (by simp) (by simp)
  rcases takeFrame_cases w q s with
    ⟨-, heq⟩ | ⟨-, heq⟩ | ⟨-, -, heq⟩ | ⟨-, -, -, heq⟩ | ⟨-, -, -, heq⟩ <;> rw [heq]
  case inl => exact hclosed _
  case inr.inl => exact hclosed _
  all_goals exact recordsFit_of_same h (by simp) (by simp)

theorem classifyBit_recordsFit {s : State} (h : RecordsFit s) (hcap : s.rcd.length ≤ s.cfg.recCap) (d : Bit) (p : Nat) :
    RecordsFit (classifyBit d p s) := by
  rcases classifyBit_cases d p s with
    ⟨-, -, heq⟩ | ⟨-, -, heq⟩ | ⟨-, -, -, heq⟩ | ⟨-, -, heq⟩ | ⟨-, -, heq⟩ <;> rw [heq]
  case inr.inr.inr.inr => exact takeFrame_recordsFit h hcap _ _
  all_goals exact recordsFit_of_same h (by simp [markerMatch]) (by simp [markerMatch])

theorem decodeStep_recordsFit {s : State} (h : RecordsFit s) (hcap : s.rcd.length ≤ s.cfg.recCap) (a b : Bit) :
    RecordsFit (decodeStep a b s) := by
  rcases decodeStep_split a b s with heq | ⟨d, heq⟩ <;> rw [heq]
  · exact h
  · have htaken : RecordsFit (bitTaken d s) := h
    exact classifyBit_recordsFit htaken hcap d _

theorem sampleAct_recordsFit {s : State} (h : RecordsFit s) (hcap : s.rcd.length ≤ s.cfg.recCap) (b : Bit) :
    RecordsFit (sampleAct b s) := by
  have hunlatched : RecordsFit (unlatch (countCh s)) := h
  exact sampleAct_keeps h (decodeStep_recordsFit hunlatched hcap s.ha b)

theorem closeRecord_recordsFit {s : State} (h : RecordsFit s) (hcap : s.rcd.length ≤ s.cfg.recCap) :
    RecordsFit (closeRecord s) := by
  rcases closeRecord_cases s with ⟨-, heq⟩ | ⟨-, heq⟩ <;> rw [heq]
  · have hemitted : RecordsFit (emit (.incomplete s.ffill.toNat) s) := h
    exact flush_recordsFit hemitted hcap
  · exact h

/-- EOS writes the sink only by closing the Record. -/
theorem eosAct_recordsFit {s : State} (h : RecordsFit s) (hcap : s.rcd.length ≤ s.cfg.recCap) :
    RecordsFit (eosAct s) := by
  have hunlatched : RecordsFit (unlatch s) := h
  exact recordsFit_of_same (closeRecord_recordsFit hunlatched hcap) (by simp [eosAct]) (by simp [eosAct])

theorem recordsFit_keptByHostMoves : KeptByHostMoves RecordsFit where
  taken _ h := h
  raised _ h := h
  restarted _ := resetWith_recordsFit _ _
  sampled b hreach _ h := sampleAct_recordsFit h (rcd_length_le_of_regsOk (regsOk_of_reachable hreach)) b
  ended hreach _ h := eosAct_recordsFit h (rcd_length_le_of_regsOk (regsOk_of_reachable hreach))

/-- Settles O60, over the host's moves: the guards of SAMPLE and EOS bound the open Record (10 R35). -/
theorem hostStepsKeepTheRecordsWithinCapacity : Obligations.HostStepsKeepTheRecordsWithinCapacity := by
  unfold Obligations.HostStepsKeepTheRecordsWithinCapacity
  intro s t hfed _ hfit h
  exact recordsFit_keptByHostMoves.step hfed hfit h

end Sys2Proof.Machine

/-! ### What the block operations do (40 R100, R102; 41 R120; 42 R150, R160) -/

namespace Sys2Proof.Machine

open Sys2Proof Sys2Proof.Claims

/-- SAMPLE and the two characters, past their guards (40 R100). -/
theorem exec_of_sampleOf_live {i : Instr} {b : Bit} {s : State} (hi : sampleOf i = some b) (hfault : s.fault = none)
    (hreach : Reachable s) (hlive : s.fsm ≠ .done) : exec i s = .next (sampleAct b s) := by
  rw [exec_of_sampleOf hi]
  exact takeSymbol_normal hfault hreach hlive

theorem sampleAct_first {b : Bit} {s : State} (h : s.hv = 0#1) : sampleAct b s = latch b (countCh s) := pairStep_first h

theorem sampleAct_second {b : Bit} {s : State} (h : s.hv = 1#1) :
    sampleAct b s = decodeStep s.ha b (unlatch (countCh s)) :=
  pairStep_second (s := countCh s) (by simp [h])

/-- Settles O1: the sample is the first of its pair. -/
theorem sampleLatchesFirstOfPair : Obligations.SampleLatchesFirstOfPair := by
  unfold Obligations.SampleLatchesFirstOfPair
  intro i b s hi hfault hreach hlive hv
  rw [exec_of_sampleOf_live hi hfault hreach hlive, sampleAct_first hv]
  rfl

/-- Settles O2: the sample completes a pair that is invalid. -/
theorem sampleCompletingInvalidPairIsSkipped : Obligations.SampleCompletingInvalidPairIsSkipped := by
  unfold Obligations.SampleCompletingInvalidPairIsSkipped
  intro i b s hi hfault hreach hlive hv hpair
  rw [exec_of_sampleOf_live hi hfault hreach hlive, sampleAct_second hv,
    decodeStep_invalid (s := unlatch (countCh s)) hpair]
  rfl

/-- Settles O3: the sample completes a pair that is valid. -/
theorem sampleCompletingValidPairYieldsBit : Obligations.SampleCompletingValidPairYieldsBit := by
  unfold Obligations.SampleCompletingValidPairYieldsBit
  intro i b s hi hfault hreach hlive hv hpair
  rw [exec_of_sampleOf_live hi hfault hreach hlive, sampleAct_second hv,
    decodeStep_valid (s := unlatch (countCh s)) hpair]
  rfl

/-- Settles O4: both are DECODE_STEP on the same pair, and the latch's clauses are all of 10 R35 that the pair row's guard
could miss. -/
theorem sampleRunsThePairRowOfItsWord : Obligations.SampleRunsThePairRowOfItsWord := by
  unfold Obligations.SampleRunsThePairRowOfItsWord
  intro i b s hi hfault hreach hlive hv
  have hregs : RegsOk s := regsOk_of_reachable hreach
  have hcounted : RegsOk (countCh s) := hregs
  calc exec i s = .next (decodeStep s.ha b (unlatch (countCh s))) := by
        rw [exec_of_sampleOf_live hi hfault hreach hlive, sampleAct_second hv]
    _ = takePair s.ls s.ha b (unlatch (countCh s)) :=
        (takePair_normal (s := unlatch (countCh s)) hfault (unlatch_regsOk hcounted) hlive rfl).symm
    _ = _ := (exec_decodeFmPair s.ls s.ha b _).symm

/-- FLUSH in one equation (42 R160). -/
theorem flush_eq_closed (s : State) : flush s = closed s := by
  by_cases h : s.rcd = []
  · rw [flush_empty h]
    simp [closed, h, recClear]
  · rw [flush_nonempty h]
    simp [closed, h, recClear, emit, countRec, recOut, serialise, deliver, emitRecord_nonempty h]

/-- Settles O5: EOS past its guards, with a Record to close and without one. -/
theorem eosEndsTheRun : Obligations.EosEndsTheRun := by
  unfold Obligations.EosEndsTheRun
  intro s hfault hreach
  have hexec (hlive : s.fsm ≠ .done) : exec .eos s = .next (eosAct s) := takeSymbol_normal hfault hreach hlive
  constructor
  · intro hsearch
    rw [hexec (by simp [hsearch]), eosAct, closeRecord_other (by simp [hsearch])]
    rfl
  · intro hrec
    rw [hexec (by simp [hrec]), eosAct, closeRecord_inRecord (by simp [hrec]), endOfRecordStream, flush_eq_closed]
    by_cases hrcd : s.rcd = [] <;> simp [closed, hrcd, emit, unlatch, setFsm, setFrame, setWindow]

theorem output_stuck {e : Event} {s : State} {r : FaultReason} (hfault : s.fault = some r) :
    output e s = .fault (.stuck r) := by simp [output, hfault]

/-- Settles O24, by the guard each row starts with. -/
theorem faultedBlockTakesNoStep : Obligations.FaultedBlockTakesNoStep := by
  unfold Obligations.FaultedBlockTakesNoStep
  intro i r s hneeds hfault
  by_cases hformat : i.format = .fmPair ∨ i.format = .syncMarker ∨ i.format = .frame
  · obtain ⟨act, hact⟩ := exec_eq_withinStep hformat
    rw [hact]
    exact withinStep_stuck hfault
  · cases i with
    | sample b => exact takeSymbol_stuck hfault
    | eos => exact takeSymbol_stuck hfault
    | text0 => exact takeSymbol_stuck hfault
    | text1 => exact takeSymbol_stuck hfault
    | evLbit p d => exact output_stuck hfault
    | evPairErr k a b => exact output_stuck hfault
    | evMarker p => exact output_stuck hfault
    | evFrameByte p v => exact output_stuck hfault
    | evFrameEnd p => exact output_stuck hfault
    | evSyncViol p t0 t1 t2 => exact output_stuck hfault
    | evIncomplete f => exact output_stuck hfault
    | evRecord n => exact output_stuck hfault
    | evDone => exact output_stuck hfault
    | reset => cases hneeds
    | textOther c => cases hneeds
    | tapRecord p => cases hneeds
    | _ => simp [Instr.format] at hformat

end Sys2Proof.Machine

/-! ### The step relation and the observation (40 R104, R105) -/

namespace Sys2Proof.Machine

open Sys2Proof

/-- What a step answers has the trace the step began with as its start. -/
theorem traceStart_prefix {i : Instr} {s t : State} (h : exec i s = .next t) : traceStart i s <+: t.trace := by
  by_cases hi : i = .reset
  · rw [hi, traceStart_reset]
    exact List.nil_prefix
  · rw [traceStart_of_ne hi]
    exact (outputsOnlyGrow i s t h hi).1

/-- Settles O56: the events of a step are what stands after the trace it began with. -/
theorem normalStepIsTheNormalAnswer : Obligations.NormalStepIsTheNormalAnswer := by
  unfold Obligations.NormalStepIsTheNormalAnswer
  intro i s t
  refine ⟨fun evs => ⟨fun h => ?_, fun ⟨hexec, hfault, htrace⟩ => ?_⟩, fun hexec hfault =>
    ⟨_, answer_next hexec hfault⟩⟩
  · obtain ⟨hexec, hfault, rfl⟩ := answer_next_inv h
    exact ⟨hexec, hfault, (List.prefix_iff_eq_append.mp (traceStart_prefix hexec)).symm⟩
  · have hevs : t.trace.drop (traceStart i s).length = evs := by
      rw [htrace]
      exact List.drop_left
    exact hevs ▸ answer_next hexec hfault

theorem count_eventsOfKind (k : EventKind) (t : List Event) (e : Event) :
    (eventsOfKind k t).count e = if eventKind e = k then t.count e else 0 := by
  split_ifs with hk
  · exact List.count_filter (by simpa using hk)
  · exact List.count_eq_zero_of_not_mem fun hmem => hk (by simpa [eventsOfKind] using (List.mem_filter.mp hmem).2)

/-- Each event stands in the list of its kind and in no other. -/
theorem count_flatten_perKind (t : List Event) (e : Event) : (perKind t).flatten.count e = t.count e := by
  rw [List.count_flatten, perKind, List.map_map]
  simp only [Function.comp_def, count_eventsOfKind, eventKinds]
  cases eventKind e <;> simp

theorem eventsOfKind_mem_perKind (k : EventKind) (t : List Event) : eventsOfKind k t ∈ perKind t :=
  List.mem_map_of_mem (mem_eventKinds k)

/-- Settles O58: the observed lists are the readings of the trace by kind. -/
theorem observationKeepsEveryEventInItsKind : Obligations.ObservationKeepsEveryEventInItsKind := by
  unfold Obligations.ObservationKeepsEveryEventInItsKind
  intro s
  refine ⟨count_flatten_perKind s.trace, fun l hl => ?_, fun k => eventsOfKind_mem_perKind k s.trace⟩
  obtain ⟨k, -, rfl⟩ := List.mem_map.mp hl
  have hkind {e : Event} (he : e ∈ eventsOfKind k s.trace) : eventKind e = k := by
    simpa using (List.mem_filter.mp he).2
  exact ⟨List.filter_sublist, fun e he f hf => (hkind he).trans (hkind hf).symm⟩

end Sys2Proof.Machine

/-! ### The block and the document's batch process (40 R106, R107; 42 R165, R166)

A state of a run holds, in its windows, the LogicalBits that the classifier has taken and not yet decided on. What the
batch process still has to find from a state is its scan of those bits and of the bits to come; together with what the
block has put out already this sum does not change from step to step, and at EOS nothing is left to find. -/

namespace Sys2Proof.Machine

open Sys2Proof

/-! #### The bits held in the windows -/

/-- The LogicalBits of the search window that the scan has not passed over: at most its newest two (42 R141). -/
def searchBits (w : WindowWord) (n : BitVec 2) : List Bit := [w.extractLsb' 1 1, w.extractLsb' 0 1].drop (2 - n.toNat)

/-- The first `n` bits of a Frame in arrival order (30 R74). -/
def frameBits (w : FrameWord) (n : Nat) : List Bit := (List.range n).map (frameBit w)

theorem length_searchBits (w : WindowWord) (n : BitVec 2) : (searchBits w n).length = min n.toNat 2 := by
  simp only [searchBits, List.length_drop, List.length_cons, List.length_nil]
  omega

@[simp] theorem length_frameBits (w : FrameWord) (n : Nat) : (frameBits w n).length = n := by simp [frameBits]

@[simp] theorem searchBits_empty (w : WindowWord) : searchBits w 0#2 = [] := rfl

@[simp] theorem frameBits_zero (w : FrameWord) : frameBits w 0 = [] := rfl

/-- Below two held bits the window's next bit joins them, and the window is not full yet. -/
theorem searchBits_push_of_lt {n : BitVec 2} (h : n.toNat < 2) (w : WindowWord) (d : Bit) :
    searchBits (windowPush w d) (fillPush n) = searchBits w n ++ [d] ∧ fillPush n ≠ 3#2 := by
  revert n w d; decide

/-- From two held bits on the window is full with the next bit, which pushes the oldest out. -/
theorem searchBits_push_of_le {n : BitVec 2} (h : 2 ≤ n.toNat) (w : WindowWord) (d : Bit) :
    searchBits w n = [w.extractLsb' 1 1, w.extractLsb' 0 1] ∧
      searchBits (windowPush w d) (fillPush n) = [w.extractLsb' 0 1, d] ∧ fillPush n = 3#2 := by
  revert n w d; decide

/-- A full window reads 010 exactly if its bits, oldest first, are the SyncMarker's (30 R73). -/
theorem windowPush_eq_marker_iff (w : WindowWord) (d : Bit) :
    windowPush w d = 0b010#3 ↔ [w.extractLsb' 1 1, w.extractLsb' 0 1, d] = Config.markerBits := by
  revert w d; decide

/-- Writing FRM[i] sets that bit and keeps the others (42 R143). -/
theorem frameBit_frameSet {i j : Nat} (hi : i < 11) (hj : j < 11) (w : FrameWord) (d : Bit) :
    frameBit (frameSet w i d) j = if j = i then d else frameBit w j := by
  refine BitVec.eq_of_getLsbD_eq fun k hk => ?_
  obtain rfl : k = 0 := by omega
  rcases Nat.lt_trichotomy j i with h | rfl | h
  · simp [frameBit, frameSet, hj, h, h.ne]
  · simp [frameBit, frameSet, hj]
  · have habove : d.getLsbD (j - i) = false := BitVec.getLsbD_of_ge d (j - i) (by omega)
    simp [frameBit, frameSet, hj, h.ne', habove, Nat.sub_ne_zero_of_lt h]

theorem frameBits_frameSet {n : Nat} (h : n < 11) (w : FrameWord) (d : Bit) :
    frameBits (frameSet w n d) (n + 1) = frameBits w n ++ [d] := by
  rw [frameBits, List.range_succ, List.map_append, List.map_singleton, frameBit_frameSet h h, if_pos rfl]
  refine congrArg (· ++ [d]) (List.map_congr_left fun j hj => ?_)
  have hjn : j < n := List.mem_range.mp hj
  rw [frameBit_frameSet h (hjn.trans h), if_neg hjn.ne]

/-! #### The document's scan without its fuel -/

/-- The scan of 42 R165 with the fuel that is enough. -/
def scan (inRec : Bool) (i : Nat) (rec : Record) (l : List Bit) : Scanned := scanFrom (l.length + 1) inRec i rec l

/-- Each turn of the loop takes a bit, so more fuel than bits changes nothing. -/
theorem scanFrom_eq_of_lt (n m : Nat) (inRec : Bool) (i : Nat) (rec : Record) (l : List Bit) (hn : l.length < n)
    (hm : l.length < m) : scanFrom n inRec i rec l = scanFrom m inRec i rec l := by
  induction n generalizing m inRec i rec l with
  | zero => omega
  | succ n ih =>
    obtain ⟨m, rfl⟩ : ∃ k, m = k + 1 := ⟨m - 1, by omega⟩
    have hrest (k : Nat) (hk : 0 < k) (hkl : ¬ l.length < k) (inRec : Bool) (i : Nat) (rec : Record) :
        scanFrom n inRec i rec (l.drop k) = scanFrom m inRec i rec (l.drop k) :=
      ih m inRec i rec (l.drop k) (by rw [List.length_drop]; omega) (by rw [List.length_drop]; omega)
    cases inRec with
    | false =>
      by_cases hshort : l.length < Config.markerW
      · simp only [scanFrom, hshort, if_true]
      · have hone : ¬ l.length < 1 := fun h => hshort (h.trans (by decide))
        simp only [scanFrom, hshort, if_false, hrest Config.markerW (by decide) hshort, hrest 1 (by decide) hone]
    | true =>
      by_cases hshort : l.length < Config.frameW
      · simp only [scanFrom, hshort, if_true]
      · simp only [scanFrom, hshort, if_false, hrest Config.frameW (by decide) hshort]

theorem scanFrom_drop_eq_scan {l : List Bit} {k : Nat} (hk : 0 < k) (h : ¬ l.length < k) (inRec : Bool) (i : Nat)
    (rec : Record) : scanFrom l.length inRec i rec (l.drop k) = scan inRec i rec (l.drop k) :=
  scanFrom_eq_of_lt _ _ inRec i rec _ (by rw [List.length_drop]; omega) (Nat.lt_succ_self _)

theorem scan_search_short {l : List Bit} (h : l.length < 3) (i : Nat) (rec : Record) :
    scan false i rec l = { out := [], events := [] } := if_pos h

/-- A turn of the search with three bits left (42 R165). -/
theorem scan_search {l : List Bit} (h : ¬ l.length < 3) (i : Nat) (rec : Record) :
    scan false i rec l = if l.take 3 = Config.markerBits then (scan true (i + 3) [] (l.drop 3)).after [] [.marker i]
      else scan false (i + 1) rec (l.drop 1) := by
  rw [← scanFrom_drop_eq_scan (k := 3) (by decide) h, ← scanFrom_drop_eq_scan (k := 1) (by decide) (by omega)]
  exact if_neg h

theorem scan_search_cons (a b c : Bit) (i : Nat) (rec : Record) (l : List Bit) :
    scan false i rec (a :: b :: c :: l) =
      if [a, b, c] = Config.markerBits then (scan true (i + 3) [] l).after [] [.marker i]
      else scan false (i + 1) rec (b :: c :: l) :=
  scan_search (by simp) i rec

theorem scan_record_short {l : List Bit} (h : l.length < 11) (i : Nat) (rec : Record) :
    scan true i rec l = { out := refFlushOut rec, events := .incomplete l.length :: refFlushEvents rec } := if_pos h

/-- A turn in a Record with eleven bits left (42 R165). -/
theorem scan_record {l : List Bit} (h : ¬ l.length < 11) (i : Nat) (rec : Record) :
    scan true i rec l =
      if l.take 11 = List.replicate 11 1#1 then
        (scan false (i + 11) [] (l.drop 11)).after (refFlushOut rec) (.frameEnd i :: refFlushEvents rec)
      else if (l.drop 8).take 3 = Config.markerBits then
        (scan true (i + 11) (rec ++ [BitVec.ofNat 8 (bitsValue (l.take 8))]) (l.drop 11)).after []
          [.frameByte i (BitVec.ofNat 8 (bitsValue (l.take 8)))]
      else (scan false (i + 11) [] (l.drop 11)).after (refFlushOut rec)
        (.syncViol i (l.getD 8 0#1) (l.getD 9 0#1) (l.getD 10 0#1) :: refFlushEvents rec) := by
  simp only [← scanFrom_drop_eq_scan (k := 11) (by decide) h]
  exact if_neg h

theorem frameBits_eq_ones_iff (w : FrameWord) : frameBits w 11 = List.replicate 11 1#1 ↔ frameClass w = .endMark := by
  rw [frameClass_eq_endMark_iff, eq_endFrame_iff, List.eq_replicate_iff]
  simp [frameBits]

theorem bitsValue_frameBits (w : FrameWord) : bitsValue (frameBits w 8) = (frameByte w).toNat := by
  rw [frameByte_eq_sum]
  simp only [frameBits, List.range_succ, List.range_zero, List.map_cons, List.map_nil, List.nil_append,
    List.cons_append, List.sum_cons, List.sum_nil, bitsValue]
  omega

/-- A Frame's class, byte and trailer in the scan are those of its word in the block (42 R144, R165). -/
theorem scan_record_frame (w : FrameWord) (i : Nat) (rec : Record) (l : List Bit) :
    scan true i rec (frameBits w 11 ++ l) =
      match frameClass w with
      | .endMark => (scan false (i + 11) [] l).after (refFlushOut rec) (.frameEnd i :: refFlushEvents rec)
      | .data => (scan true (i + 11) (rec ++ [frameByte w]) l).after [] [.frameByte i (frameByte w)]
      | .violation => (scan false (i + 11) [] l).after (refFlushOut rec)
          (.syncViol i (frameBit w 8) (frameBit w 9) (frameBit w 10) :: refFlushEvents rec) := by
  have htake : (frameBits w 11 ++ l).take 11 = frameBits w 11 := rfl
  have hdrop : (frameBits w 11 ++ l).drop 11 = l := rfl
  have hbyte : BitVec.ofNat 8 (bitsValue ((frameBits w 11 ++ l).take 8)) = frameByte w := by
    have hfirst : (frameBits w 11 ++ l).take 8 = frameBits w 8 := rfl
    rw [hfirst, bitsValue_frameBits, BitVec.ofNat_toNat, BitVec.setWidth_eq]
  have htrailer : ((frameBits w 11 ++ l).drop 8).take 3 = Config.markerBits ↔ frameClass w = .data := by
    have hbits : ((frameBits w 11 ++ l).drop 8).take 3 = [frameBit w 8, frameBit w 9, frameBit w 10] := rfl
    rw [hbits, frameClass_eq_data_iff, frameTrailer_eq_marker_iff]
    simp [Config.markerBits]
  rw [scan_record (by simp), htake, hdrop, hbyte]
  simp only [htrailer, frameBits_eq_ones_iff]
  cases frameClass w <;> rfl

/-! #### The classifier against the scan -/

theorem Scanned.after_after (r : Scanned) (rs rs' : List Record) (es es' : List Event) :
    (r.after rs es).after rs' es' = r.after (rs' ++ rs) (es' ++ es) := by
  simp [Scanned.after]

theorem flush_sink (s : State) : (flush s).sink = s.sink ++ refFlushOut s.rcd := by
  rw [flush_eq_closed]
  by_cases h : s.rcd = [] <;> simp [Claims.closed, refFlushOut, h]

theorem flush_trace (s : State) : (flush s).trace = s.trace ++ refFlushEvents s.rcd := by
  rw [flush_eq_closed]
  by_cases h : s.rcd = [] <;> simp [Claims.closed, refFlushEvents, h]

/-! The reading of the classifier's events, event by event: LBIT, PAIR_ERR and DONE are left out. -/

@[simp] theorem classifierEvents_marker (p : Nat) (l : List Event) :
    classifierEvents (.marker p :: l) = .marker p :: classifierEvents l := rfl

@[simp] theorem classifierEvents_frameByte (p : Nat) (v : Byte) (l : List Event) :
    classifierEvents (.frameByte p v :: l) = .frameByte p v :: classifierEvents l := rfl

@[simp] theorem classifierEvents_frameEnd (p : Nat) (l : List Event) :
    classifierEvents (.frameEnd p :: l) = .frameEnd p :: classifierEvents l := rfl

@[simp] theorem classifierEvents_syncViol (p : Nat) (t0 t1 t2 : Bit) (l : List Event) :
    classifierEvents (.syncViol p t0 t1 t2 :: l) = .syncViol p t0 t1 t2 :: classifierEvents l := rfl

@[simp] theorem classifierEvents_incomplete (f : Nat) (l : List Event) :
    classifierEvents (.incomplete f :: l) = .incomplete f :: classifierEvents l := rfl

@[simp] theorem classifierEvents_record (n : Nat) (l : List Event) :
    classifierEvents (.record n :: l) = .record n :: classifierEvents l := rfl

@[simp] theorem classifierEvents_lbit (p : Nat) (d : Bit) (l : List Event) :
    classifierEvents (.lbit p d :: l) = classifierEvents l := rfl

@[simp] theorem classifierEvents_pairErr (k : Nat) (a b : Bit) (l : List Event) :
    classifierEvents (.pairErr k a b :: l) = classifierEvents l := rfl

@[simp] theorem classifierEvents_done (l : List Event) : classifierEvents (.done :: l) = classifierEvents l := rfl

@[simp] theorem classifierEvents_nil : classifierEvents [] = [] := rfl

@[simp] theorem classifierEvents_refFlushEvents (r : Record) : classifierEvents (refFlushEvents r) = refFlushEvents r := by
  by_cases h : r = [] <;> simp [refFlushEvents, h]

/-- What the scan finds from the bits that a state at index `p` holds and the bits `l` to come. -/
def scanAhead (p : Nat) (s : State) (l : List Bit) : Scanned :=
  match s.fsm with
  | .searching => scan false (p - (searchBits s.win s.wfill).length) [] (searchBits s.win s.wfill ++ l)
  | .inRecord => scan true (p - s.ffill.toNat) s.rcd (frameBits s.frm s.ffill.toNat ++ l)
  | .done => { out := [], events := [] }
  | .unused => { out := [], events := [] }

theorem scanAhead_searching {s : State} (h : s.fsm = .searching) (p : Nat) (l : List Bit) :
    scanAhead p s l = scan false (p - (searchBits s.win s.wfill).length) [] (searchBits s.win s.wfill ++ l) := by
  simp only [scanAhead, h]

theorem scanAhead_inRecord {s : State} (h : s.fsm = .inRecord) (p : Nat) (l : List Bit) :
    scanAhead p s l = scan true (p - s.ffill.toNat) s.rcd (frameBits s.frm s.ffill.toNat ++ l) := by
  simp only [scanAhead, h]

/-- What the run has put out at a state with what the scan still finds. -/
def scanTotal (p : Nat) (s : State) (l : List Bit) : Scanned :=
  (scanAhead p s l).after s.sink (classifierEvents s.trace)

theorem scanTotal_congr {p : Nat} {s t : State} {l : List Bit} (hahead : scanAhead p t l = scanAhead p s l)
    (hsink : t.sink = s.sink) (hevents : classifierEvents t.trace = classifierEvents s.trace) :
    scanTotal p t l = scanTotal p s l := by rw [scanTotal, hahead, hsink, hevents, scanTotal]

theorem scanAhead_over {s : State} (hsearch : s.fsm ≠ .searching) (hrec : s.fsm ≠ .inRecord) (p : Nat) (l : List Bit) :
    scanAhead p s l = { out := [], events := [] } := by
  cases h : s.fsm <;> simp_all [scanAhead]

theorem scanAhead_slide {s : State} {d : Bit} {p : Nat} (hsearch : s.fsm = .searching) (hp : s.wfill.toNat ≤ p)
    (hother : ¬ (fillPush s.wfill = 3#2 ∧ windowPush s.win d = 0b010#3)) (l : List Bit) :
    scanAhead (p + 1) (setWindow (windowPush s.win d) (fillPush s.wfill) s) l = scanAhead p s (d :: l) := by
  rw [scanAhead_searching hsearch, scanAhead_searching (by simpa using hsearch), setWindow_win, setWindow_wfill]
  rcases Nat.lt_or_ge s.wfill.toNat 2 with hfew | htwo
  · obtain ⟨hpush, -⟩ := searchBits_push_of_lt hfew s.win d
    rw [hpush, List.length_append, List.length_singleton, Nat.add_sub_add_right, List.append_assoc]
    rfl
  · obtain ⟨hbits, hpush, hfull⟩ := searchBits_push_of_le htwo s.win d
    have hmarker := (windowPush_eq_marker_iff s.win d).not.mp fun hw => hother ⟨hfull, hw⟩
    have hpos : p - 2 + 1 = p + 1 - 2 := by omega
    rw [hpush, hbits]
    exact (hpos ▸ (scan_search_cons _ _ d (p - 2) [] l).trans (if_neg hmarker)).symm

theorem scanAhead_marker {s : State} {d : Bit} {p : Nat} (hsearch : s.fsm = .searching) (hp : s.wfill.toNat ≤ p)
    (hfull : fillPush s.wfill = 3#2) (hmarker : windowPush s.win d = 0b010#3) (l : List Bit) :
    scanAhead p s (d :: l) = (scan true (p + 1) [] l).after [] [.marker (p - 2)] := by
  have htwo : 2 ≤ s.wfill.toNat := by
    by_contra hfew
    exact (searchBits_push_of_lt (Nat.lt_of_not_le hfew) s.win d).2 hfull
  obtain ⟨hbits, -, -⟩ := searchBits_push_of_le htwo s.win d
  have hpos : p - 2 + 3 = p + 1 := by omega
  rw [scanAhead_searching hsearch, hbits, ← hpos]
  exact (scan_search_cons _ _ d (p - 2) [] l).trans (if_pos ((windowPush_eq_marker_iff s.win d).mp hmarker))

theorem scanAhead_store {s : State} {d : Bit} {p : Nat} (hrec : s.fsm = .inRecord) (hroom : s.ffill.toNat < 10)
    (l : List Bit) :
    scanAhead (p + 1) (setFrame (frameSet s.frm s.ffill.toNat d) (s.ffill + 1#4) s) l = scanAhead p s (d :: l) := by
  rw [scanAhead_inRecord hrec, scanAhead_inRecord (by simpa using hrec), setFrame_ffill, setFrame_frm, setFrame_rcd,
    ffill_succ_toNat hroom, Nat.add_sub_add_right, frameBits_frameSet (by omega), List.append_assoc]
  rfl

theorem scanAhead_complete {s : State} {d : Bit} {p : Nat} (hrec : s.fsm = .inRecord) (hfull : s.ffill.toNat = 10)
    (l : List Bit) :
    scanAhead p s (d :: l) = scan true (p - 10) s.rcd (frameBits (frameSet s.frm 10 d) 11 ++ l) := by
  rw [scanAhead_inRecord hrec, hfull, frameBits_frameSet (by decide), List.append_assoc]
  rfl

/-- What a consumed Frame puts out, and the scan from the state it leaves, are a turn of the scan in a Record. -/
theorem scanTotal_takeFrame {s : State} {w : FrameWord} {q : Nat} (hsink : s.cfg.sinkAttached = true)
    (hrec : s.fsm = .inRecord) (hfault : (takeFrame w q s).fault = none) (l : List Bit) :
    scanTotal (q + 11) (takeFrame w q s) l =
      (scan true q s.rcd (frameBits w 11 ++ l)).after s.sink (classifierEvents s.trace) := by
  rw [scan_record_frame, scanTotal]
  rcases takeFrame_cases w q s with
    ⟨hclass, heq⟩ | ⟨hclass, heq⟩ | ⟨-, hnone, -⟩ | ⟨hclass, -, -, heq⟩ | ⟨-, -, -, heq⟩
  case inl =>
    rw [heq, hclass, scanAhead_searching (by simp)]
    simp [flush_sink, flush_trace, Scanned.after_after]
  case inr.inl =>
    rw [heq, hclass, scanAhead_searching (by simp)]
    simp [flush_sink, flush_trace, Scanned.after_after]
  case inr.inr.inl => simp [hsink] at hnone
  case inr.inr.inr.inl =>
    rw [heq, hclass, scanAhead_inRecord (by simpa using hrec)]
    simp [Scanned.after_after]
  case inr.inr.inr.inr => simp [heq] at hfault

/-- A classified LogicalBit is a turn of the scan, or the wait for one (42 R140, R166). -/
theorem scanTotal_classifyBit {s : State} {d : Bit} {p : Nat} (hffill : s.ffill.toNat ≤ 10) (hwin : s.wfill.toNat ≤ p)
    (hfrm : s.ffill.toNat ≤ p) (hsink : s.cfg.sinkAttached = true) (hfault : (classifyBit d p s).fault = none)
    (l : List Bit) : scanTotal (p + 1) (classifyBit d p s) l = scanTotal p s (d :: l) := by
  rcases classifyBit_cases d p s with
    ⟨hsearch, hrec, heq⟩ | ⟨hsearch, hother, heq⟩ | ⟨hsearch, hfull, hmarker, heq⟩ |
    ⟨hrec, hroom, heq⟩ | ⟨hrec, hfull, heq⟩
  case inl =>
    rw [heq, scanTotal, scanTotal, scanAhead_over hsearch hrec, scanAhead_over hsearch hrec]
  case inr.inl =>
    rw [heq, scanTotal, scanAhead_slide hsearch hwin hother]
    rfl
  case inr.inr.inl =>
    rw [heq, scanTotal, scanTotal, scanAhead_marker hsearch hwin hfull hmarker, scanAhead_inRecord (by simp [markerMatch])]
    simp [markerMatch, Scanned.after_after]
  case inr.inr.inr.inl =>
    rw [heq, scanTotal, scanAhead_store hrec hroom]
    rfl
  case inr.inr.inr.inr =>
    have hten : s.ffill.toNat = 10 := by omega
    have hpos : p - 10 + 11 = p + 1 := by omega
    rw [heq] at hfault
    rw [heq, ← hpos, scanTotal_takeFrame hsink hrec hfault, hten, scanTotal, scanAhead_complete hrec hten]

/-- EOS puts out what the scan still finds when no bit is to come (42 R150, R165). -/
theorem scanTotal_nil {s : State} (hffill : s.ffill.toNat ≤ 10) (p : Nat) :
    scanTotal p s [] = { out := (eosAct s).sink, events := classifierEvents (eosAct s).trace } := by
  rcases closeRecord_cases (unlatch s) with ⟨hrec, heq⟩ | ⟨hrec, heq⟩
  · have hshort : (frameBits s.frm s.ffill.toNat ++ []).length < 11 := by simp; omega
    rw [scanTotal, scanAhead_inRecord (s := s) hrec, scan_record_short hshort, eosAct, heq]
    simp [Scanned.after, flush_sink, flush_trace]
  · have hnothing : scanAhead p s [] = { out := [], events := [] } := by
      by_cases hsearch : s.fsm = .searching
      · have hshort : (searchBits s.win s.wfill ++ []).length < 3 := by
          rw [List.append_nil, length_searchBits]
          omega
        rw [scanAhead_searching hsearch, scan_search_short hshort]
      · exact scanAhead_over hsearch hrec p []
    rw [scanTotal, hnothing, eosAct, heq]
    simp [Scanned.after]

/-! #### The events of a LogicalBit -/

/-- An event that only EOS emits (40 R102, 42 R150). -/
def isEndingEvent : Event → Bool
  | .incomplete _ => true
  | .done => true
  | _ => false

/-- `t` has the trace of `s` and then classifier events, none of which ends the run. -/
def ClassifierEmits (s t : State) : Prop :=
  ∃ es, t.trace = s.trace ++ es ∧ ∀ e ∈ es, isDecoderEvent e = false ∧ isEndingEvent e = false

theorem eq_record_of_mem_refFlushEvents {r : Record} {e : Event} (h : e ∈ refFlushEvents r) : e = .record r.length := by
  unfold refFlushEvents at h
  split at h
  · cases h
  · exact List.mem_singleton.mp h

theorem takeFrame_classifierEmits (w : FrameWord) (q : Nat) (s : State) : ClassifierEmits s (takeFrame w q s) := by
  have hclosed {e : Event} (he : isDecoderEvent e = false ∧ isEndingEvent e = false) :
      ClassifierEmits s (enterSearching (flush (emit e (frameTaken s)))) := by
    refine ⟨e :: refFlushEvents s.rcd, by simp [flush_trace], fun f hf => ?_⟩
    rcases List.mem_cons.mp hf with rfl | hf
    · exact he
    · rw [eq_record_of_mem_refFlushEvents hf]
      exact ⟨rfl, rfl⟩
  have hbyte : ∀ e ∈ [Event.frameByte q (frameByte w)], isDecoderEvent e = false ∧ isEndingEvent e = false := by
    simp [isDecoderEvent, isEndingEvent]
  rcases takeFrame_cases w q s with
    ⟨-, heq⟩ | ⟨-, heq⟩ | ⟨-, -, heq⟩ | ⟨-, -, -, heq⟩ | ⟨-, -, -, heq⟩ <;> rw [heq]
  case inl => exact hclosed ⟨rfl, rfl⟩
  case inr.inl => exact hclosed ⟨rfl, rfl⟩
  all_goals exact ⟨_, rfl, hbyte⟩

theorem classifyBit_classifierEmits (d : Bit) (p : Nat) (s : State) : ClassifierEmits s (classifyBit d p s) := by
  have hsilent {t : State} (h : t.trace = s.trace) : ClassifierEmits s t := ⟨[], by simp [h], nofun⟩
  rcases classifyBit_cases d p s with
    ⟨-, -, heq⟩ | ⟨-, -, heq⟩ | ⟨-, -, -, heq⟩ | ⟨-, -, heq⟩ | ⟨-, -, heq⟩ <;> rw [heq]
  case inr.inr.inl => exact ⟨[.marker (p - 2)], rfl, by simp [isDecoderEvent, isEndingEvent]⟩
  case inr.inr.inr.inr => exact takeFrame_classifierEmits _ _ s
  all_goals exact hsilent rfl

theorem traceBits_eq_nil {es : List Event} (h : ∀ e ∈ es, isDecoderEvent e = false) : traceBits es = [] := by
  induction es with
  | nil => rfl
  | cons e es ih =>
    obtain ⟨he, hes⟩ := List.forall_mem_cons.mp h
    exact (traceBits_classifier he es).trans (ih hes)

theorem traceErrs_eq_nil {es : List Event} (h : ∀ e ∈ es, isDecoderEvent e = false) : traceErrs es = [] := by
  induction es with
  | nil => rfl
  | cons e es ih =>
    obtain ⟨he, hes⟩ := List.forall_mem_cons.mp h
    exact (traceErrs_classifier he es).trans (ih hes)

/-- The classifier's events report no LogicalBit and no invalid pair (30 R78). -/
theorem ClassifierEmits.decoded {s t : State} (h : ClassifierEmits s t) :
    traceBits t.trace = traceBits s.trace ∧ traceErrs t.trace = traceErrs s.trace := by
  obtain ⟨es, htrace, hes⟩ := h
  rw [htrace, traceBits_append, traceErrs_append, traceBits_eq_nil fun e he => (hes e he).1,
    traceErrs_eq_nil fun e he => (hes e he).1, List.append_nil, List.append_nil]
  exact ⟨rfl, rfl⟩

/-- The events of EOS (40 R102, 42 R150). -/
theorem eosAct_trace (s : State) : ∃ es, (eosAct s).trace = s.trace ++ (es ++ [.done]) ∧
    (es = [] ∨ es = .incomplete s.ffill.toNat :: refFlushEvents s.rcd) := by
  rcases closeRecord_cases (unlatch s) with ⟨-, heq⟩ | ⟨-, heq⟩
  · exact ⟨_, by simp [eosAct, heq, flush_trace], .inr rfl⟩
  · exact ⟨[], by simp [eosAct, heq], .inl rfl⟩

/-- EOS reports no LogicalBit and no invalid pair. -/
theorem eosAct_decoded (s : State) :
    traceBits (eosAct s).trace = traceBits s.trace ∧ traceErrs (eosAct s).trace = traceErrs s.trace := by
  obtain ⟨es, htrace, hes⟩ := eosAct_trace s
  have hclosing : ∀ e ∈ es, isDecoderEvent e = false := by
    rcases hes with rfl | rfl
    · exact nofun
    · refine List.forall_mem_cons.mpr ⟨rfl, fun e he => ?_⟩
      rw [eq_record_of_mem_refFlushEvents he]
      rfl
  have hclassifier : ∀ e ∈ es ++ [.done], isDecoderEvent e = false :=
    List.forall_mem_append.mpr ⟨hclosing, by simp [isDecoderEvent]⟩
  rw [htrace, traceBits_append, traceErrs_append, traceBits_eq_nil hclassifier, traceErrs_eq_nil hclassifier,
    List.append_nil, List.append_nil]
  exact ⟨rfl, rfl⟩

/-! #### The run of a channel sequence -/

/-- What the batch process and the block are compared in (40 R107). -/
structure Reading where
  scanned : Scanned
  decoded : Decoded

/-- What a state has put out and holds. -/
def reading (s : State) : Reading :=
  { scanned := { out := s.sink, events := classifierEvents s.trace }
    decoded := { bits := traceBits s.trace, line := s.ls, errs := traceErrs s.trace } }

/-- What a state has put out with what the batch process makes, from it, of the channel samples `l` to come. -/
def forecast (s : State) (l : List Bit) : Reading :=
  { scanned := scanTotal s.nLb s (decodeFrom s.nPair s.ls l).bits
    decoded :=
      { bits := traceBits s.trace ++ (decodeFrom s.nPair s.ls l).bits
        line := (decodeFrom s.nPair s.ls l).line
        errs := traceErrs s.trace ++ (decodeFrom s.nPair s.ls l).errs } }

/-- The sample that waits for the second of its pair (41 R120). -/
def heldSample (s : State) : List Bit := if s.hv = 1#1 then [s.ha] else []

theorem decodeFrom_invalid {a b : Bit} {ls : LineState} (h : a = lineLevel ls) (k : Nat) (l : List Bit) :
    decodeFrom k ls (a :: b :: l) =
      { decodeFrom (k + 1) ls l with errs := (k, a, b) :: (decodeFrom (k + 1) ls l).errs } := by
  simp [decodeFrom, decodePair_invalid h]

theorem decodeFrom_valid {a b d : Bit} {ls ls' : LineState} (h : decodePair a b ls = (some d, ls')) (k : Nat)
    (l : List Bit) : decodeFrom k ls (a :: b :: l) =
      { decodeFrom (k + 1) ls' l with bits := d :: (decodeFrom (k + 1) ls' l).bits } := by
  simp [decodeFrom, h]

theorem forecast_invalidPair {s : State} {a b : Bit} (h : a = lineLevel s.ls) (l : List Bit) :
    forecast (invalidPair s.nPair a b (countPair s)) l = forecast s (a :: b :: l) := by
  have hscan (bits : List Bit) :
      scanTotal s.nLb (invalidPair s.nPair a b (countPair s)) bits = scanTotal s.nLb s bits :=
    scanTotal_congr rfl rfl (by simp [invalidPair])
  simp [forecast, decodeFrom_invalid h, ← hscan, invalidPair]

theorem forecast_validPair {s : State} {a b d : Bit} (hpair : decodePair a b s.ls = (some d, fmNext s.ls d))
    (hregs : RegsOk s) (hpos : PositionsOk s) (hsink : s.cfg.sinkAttached = true)
    (hfault : (classifyBit d s.nLb (bitTaken d s)).fault = none) (l : List Bit) :
    forecast (classifyBit d s.nLb (bitTaken d s)) l = forecast s (a :: b :: l) := by
  obtain ⟨-, -, hffill, -, -, -, -, -⟩ := (regsOk_iff s).mp hregs
  obtain ⟨hwin, hfrm⟩ := hpos
  have hsame := classifyBit_decoderSame d s.nLb (bitTaken d s)
  obtain ⟨hbits, herrs⟩ := (classifyBit_classifierEmits d s.nLb (bitTaken d s)).decoded
  have hscan (bits : List Bit) :
      scanTotal (s.nLb + 1) (classifyBit d s.nLb (bitTaken d s)) bits = scanTotal s.nLb s (d :: bits) :=
    (scanTotal_classifyBit (s := bitTaken d s) hffill hwin hfrm hsink hfault bits).trans
      (scanTotal_congr rfl rfl (by simp))
  simp [forecast, decodeFrom_valid hpair, hsame.nLb, hsame.nPair, hsame.ls, hbits, herrs, hscan]

theorem forecast_decodeStep {s : State} {a b : Bit} (hregs : RegsOk s) (hpos : PositionsOk s)
    (hsink : s.cfg.sinkAttached = true) (hfault : (decodeStep a b s).fault = none) (l : List Bit) :
    forecast (decodeStep a b s) l = forecast s (a :: b :: l) := by
  rcases decodeStep_cases a b s with ⟨hlevel, heq⟩ | ⟨d, -, hpair, heq⟩
  · rw [heq]
    exact forecast_invalidPair hlevel l
  · rw [heq] at hfault ⊢
    exact forecast_validPair hpair hregs hpos hsink hfault l

/-- A sample moves from the samples to come into the latch, or with the latched one into the decoder (41 R120). -/
theorem forecast_sampleAct {s : State} {b : Bit} (hregs : RegsOk s) (hpos : PositionsOk s)
    (hsink : s.cfg.sinkAttached = true) (hfault : (sampleAct b s).fault = none) (l : List Bit) :
    forecast (sampleAct b s) (heldSample (sampleAct b s) ++ l) = forecast s (heldSample s ++ b :: l) := by
  rcases sampleAct_cases b s with ⟨hv, heq⟩ | ⟨hv, heq⟩
  · have hnone : heldSample s = [] := by simp [heldSample, hv]
    rw [heq, hnone]
    rfl
  · rw [heq] at hfault ⊢
    obtain ⟨-, hv', -, -⟩ := decodeStep_counters s.ha b (unlatch (countCh s))
    have hone : heldSample s = [s.ha] := by simp [heldSample, hv]
    have hnone : heldSample (decodeStep s.ha b (unlatch (countCh s))) = [] := by simp [heldSample, hv']
    have hcounted : RegsOk (countCh s) := hregs
    rw [hone, hnone]
    exact forecast_decodeStep (s := unlatch (countCh s)) (unlatch_regsOk hcounted) hpos hsink hfault l

/-- At EOS the batch process has an odd sample to discard and the scan's rest to hand on (40 R102, R106). -/
theorem reading_eosAct {s : State} (hregs : RegsOk s) : reading (eosAct s) = forecast s (heldSample s) := by
  obtain ⟨-, -, hffill, -, -, -, -, -⟩ := (regsOk_iff s).mp hregs
  obtain ⟨hbits, herrs⟩ := eosAct_decoded s
  have hodd : decodeFrom s.nPair s.ls (heldSample s) = { bits := [], line := s.ls, errs := [] } := by
    unfold heldSample
    split <;> rfl
  have hline : (eosAct s).ls = s.ls := (eosAct_decoderSame s).ls
  simp [reading, forecast, hodd, scanTotal_nil hffill, hbits, herrs, hline]

/-! #### One induction for a channel sequence's run -/

theorem feed_cons_next {i : Instr} {is : List Instr} {s t : State} (h : feed (i :: is) s = .next t) :
    ∃ u, exec i s = .next u ∧ feed is u = .next t := by
  unfold feed at h
  cases hexec : exec i s with
  | next u => exact ⟨u, rfl, by simpa [hexec] using h⟩
  | fault r => simp [hexec] at h
  | refused r => simp [hexec] at h

theorem fault_of_feed_channelSymbols {ch : List Bit} {s t : State} (h : feed (channelSymbols ch) s = .next t) :
    s.fault = none := by
  cases ch with
  | nil =>
    obtain ⟨u, hexec, -⟩ := feed_cons_next (h : feed [.eos] s = .next t)
    exact (takeSymbol_next hexec).1
  | cons b ch =>
    obtain ⟨u, hexec, -⟩ := feed_cons_next (h : feed (.sample b :: channelSymbols ch) s = .next t)
    exact (takeSymbol_next hexec).1

/-- A run of a channel sequence that ends without a fault is the action of SAMPLE on each sample and then that of EOS; what
holds of the start and of the samples to come, and is kept by each sample's action, holds when EOS comes. -/
theorem channelRun_induction {P : State → List Bit → Prop}
    (hstep : ∀ s b ch, Reachable s → (sampleAct b s).fault = none → P s (b :: ch) → P (sampleAct b s) ch)
    {ch : List Bit} {s t : State} (h : feed (channelSymbols ch) s = .next t) (hfault : t.fault = none) (hs : P s ch) :
    ∃ u, Reachable u ∧ P u [] ∧ t = eosAct u := by
  induction ch generalizing s with
  | nil =>
    obtain ⟨u, hexec, hend⟩ := feed_cons_next (h : feed [.eos] s = .next t)
    obtain rfl : u = t := by simpa [feed] using hend
    obtain ⟨-, ⟨hreach, -, heq⟩ | ⟨r, heq⟩⟩ := takeSymbol_next (hexec : takeSymbol eosAct s = .next u)
    · exact ⟨s, hreach, hs, heq⟩
    · simp [heq] at hfault
  | cons b ch ih =>
    obtain ⟨u, hexec, hrest⟩ := feed_cons_next (h : feed (.sample b :: channelSymbols ch) s = .next t)
    have hlive : u.fault = none := fault_of_feed_channelSymbols hrest
    obtain ⟨-, ⟨hreach, -, rfl⟩ | ⟨r, rfl⟩⟩ := takeSymbol_next (hexec : takeSymbol (sampleAct b) s = .next u)
    · exact ih hrest (hstep s b ch hreach hlive hs)
    · simp at hlive

/-- What the samples of a run keep: the counters, the positions, and the reading `r` and number `n` of samples that the run
will end with. -/
structure OnCourse (r : Reading) (n : Nat) (s : State) (ch : List Bit) : Prop where
  sink : s.cfg.sinkAttached = true
  positions : PositionsOk s
  counters : CountersMatchTrace s
  samples : s.nCh + ch.length = n
  forecast : forecast s (heldSample s ++ ch) = r

theorem sampleAct_cfg (b : Bit) (s : State) : (sampleAct b s).cfg = s.cfg := by
  refine sampleAct_keeps (P := fun t => t.cfg = s.cfg) rfl ?_
  rcases decodeStep_split s.ha b (unlatch (countCh s)) with heq | ⟨d, heq⟩ <;> rw [heq]
  · rfl
  · exact (classifyBit_decoderSame _ _ _).cfg

theorem sampleAct_nCh (b : Bit) (s : State) : (sampleAct b s).nCh = s.nCh + 1 := by
  obtain ⟨hch, -, -, -⟩ := decodeStep_counters s.ha b (unlatch (countCh s))
  exact sampleAct_keeps (P := fun t => t.nCh = s.nCh + 1) rfl hch

theorem sampleAct_onCourse {r : Reading} {n : Nat} {s : State} {b : Bit} {ch : List Bit} (hregs : RegsOk s)
    (hfault : (sampleAct b s).fault = none) (h : OnCourse r n s (b :: ch)) : OnCourse r n (sampleAct b s) ch where
  sink := sampleAct_cfg b s ▸ h.sink
  positions := sampleAct_positionsOk h.positions b
  counters := sampleAct_countersMatchTrace h.counters b
  samples := by
    rw [sampleAct_nCh, ← h.samples, List.length_cons]
    omega
  forecast := (forecast_sampleAct hregs h.positions h.sink hfault ch).trans h.forecast

/-- The batch process's result as what the run from RESET will end with. -/
theorem forecast_resetWith (c : Cfg) (ws : List FormatWord) (ch : List Bit) :
    forecast (State.resetWith c ws) ch =
      { scanned := runSeq ch c.initLineState, decoded := decodeSeq ch c.initLineState } := rfl

/-- Settles O50, by induction on the channel sequence. -/
theorem blockMatchesTheBatchProcess : Obligations.BlockMatchesTheBatchProcess := by
  unfold Obligations.BlockMatchesTheBatchProcess
  intro c ws ch t hsink hrun hfault
  have hstart : OnCourse { scanned := runSeq ch c.initLineState, decoded := decodeSeq ch c.initLineState } ch.length
      (State.resetWith c ws) ch :=
    ⟨hsink, resetWith_positionsOk c ws, resetWith_countersMatchTrace c ws, Nat.zero_add _, forecast_resetWith c ws ch⟩
  obtain ⟨u, hreach, hcourse, rfl⟩ :=
    channelRun_induction (fun s b ch hreach hlive => sampleAct_onCourse (regsOk_of_reachable hreach) hlive) hrun
      hfault hstart
  have hreading := (reading_eosAct (regsOk_of_reachable hreach)).trans
    ((congrArg _ (List.append_nil _)).symm.trans hcourse.forecast)
  obtain ⟨hscanned, hdecoded⟩ := Reading.mk.inj hreading
  obtain ⟨hlb, herr, -⟩ := eosAct_countersMatchTrace hcourse.counters
  have hsamples : (eosAct u).nCh = ch.length := (eosAct_decoderSame u).nCh.trans hcourse.samples
  rw [hlb, herr, ← hscanned, ← hdecoded]
  exact ⟨rfl, rfl, rfl, rfl, rfl, rfl, rfl, rfl, hsamples⟩

end Sys2Proof.Machine

/-! ### The observation of a channel sequence's run (40 R105) -/

namespace Sys2Proof.Machine

open Sys2Proof

/-- No event of the trace so far ends the run. -/
def Unended (s : State) : Prop := ∀ e ∈ s.trace, isEndingEvent e = false

theorem decodeStep_unended {s : State} (h : Unended s) (a b : Bit) : Unended (decodeStep a b s) := by
  rcases decodeStep_split a b s with heq | ⟨d, heq⟩ <;> rw [heq]
  · exact List.forall_mem_append.mpr ⟨h, by simp [isEndingEvent]⟩
  · obtain ⟨es, htrace, hes⟩ := classifyBit_classifierEmits d s.nLb (bitTaken d s)
    have htaken : Unended (bitTaken d s) := List.forall_mem_append.mpr ⟨h, by simp [isEndingEvent]⟩
    unfold Unended
    rw [htrace]
    exact List.forall_mem_append.mpr ⟨htaken, fun e he => (hes e he).2⟩

theorem sampleAct_unended {s : State} (h : Unended s) (b : Bit) : Unended (sampleAct b s) := by
  have hunlatched : Unended (unlatch (countCh s)) := h
  exact sampleAct_keeps h (decodeStep_unended hunlatched s.ha b)

theorem eventsOfKind_eq_nil {k : EventKind} {l : List Event} (h : ∀ e ∈ l, eventKind e ≠ k) : eventsOfKind k l = [] :=
  List.filter_eq_nil_iff.mpr fun e he => by simpa using h e he

theorem isEndingEvent_of_eventKind {e : Event} (h : eventKind e = .done ∨ eventKind e = .incomplete) :
    isEndingEvent e = true := by
  cases e <;> simp [eventKind] at h <;> rfl

theorem Unended.eventsOfKind {s : State} (h : Unended s) {k : EventKind} (hk : k = .done ∨ k = .incomplete) :
    eventsOfKind k s.trace = [] :=
  eventsOfKind_eq_nil fun e he hkind => by
    have hending := isEndingEvent_of_eventKind (hkind ▸ hk)
    simp [h e he] at hending

theorem eventsOfKind_refFlushEvents {k : EventKind} (hk : k ≠ .record) (r : Record) :
    eventsOfKind k (refFlushEvents r) = [] :=
  eventsOfKind_eq_nil fun e he => by
    rw [eq_record_of_mem_refFlushEvents he]
    exact hk.symm

/-- EOS ends a run with its one DONE, after an INCOMPLETE where a Record was open (40 R102, 60 R209). -/
theorem eosAct_eventsOfKind {s : State} (h : Unended s) :
    eventsOfKind .done (eosAct s).trace = [.done] ∧ (eventsOfKind .incomplete (eosAct s).trace).length ≤ 1 := by
  obtain ⟨es, htrace, hes⟩ := eosAct_trace s
  rw [htrace]
  simp only [eventsOfKind_append, h.eventsOfKind (.inl rfl), h.eventsOfKind (.inr rfl), List.nil_append]
  rcases hes with rfl | rfl
  · decide
  · rw [eventsOfKind_cons_other (by simp [eventKind]), eventsOfKind_cons_same (k := .incomplete) rfl,
      eventsOfKind_refFlushEvents (by simp), eventsOfKind_refFlushEvents (by simp)]
    exact ⟨rfl, le_refl 1⟩

theorem perKind_flatten_perm (t : List Event) : (perKind t).flatten.Perm t :=
  List.perm_iff_count.mpr (count_flatten_perKind t)

theorem observedRun_some {c : Cfg} {is : List Instr} {o : Observation} (h : observedRun c is = some o) :
    ∃ t, feed is (State.resetWith c []) = .next t ∧ NormalEnd t ∧ o = observe t := by
  unfold observedRun at h
  split at h
  · rename_i t hfeed
    split_ifs at h with hend
    exact ⟨t, hfeed, hend, (Option.some.inj h).symm⟩
  · cases h
  · cases h

/-- Settles O59: only EOS emits DONE and INCOMPLETE, and the Records are those of the batch process by O50. -/
theorem normalRunIsObservedWithOneDone : Obligations.NormalRunIsObservedWithOneDone := by
  unfold Obligations.NormalRunIsObservedWithOneDone
  intro c ch o hobserved
  obtain ⟨t, hrun, ⟨-, hfault⟩, rfl⟩ := observedRun_some hobserved
  have hrecords (hsink : c.sinkAttached = true) : t.sink = (runSeq ch c.initLineState).out :=
    (blockMatchesTheBatchProcess c [] ch t hsink hrun hfault).2.1
  obtain ⟨u, -, hunended, rfl⟩ := channelRun_induction (P := fun s _ => Unended s)
    (fun s b _ _ _ h => sampleAct_unended h b) hrun hfault nofun
  obtain ⟨hdone, hincomplete⟩ := eosAct_eventsOfKind hunended
  refine ⟨?_, ?_, ?_, hrecords⟩
  · exact hdone ▸ eventsOfKind_mem_perKind .done (eosAct u).trace
  · calc (observe (eosAct u)).events.flatten.count .done = (eosAct u).trace.count .done := count_flatten_perKind _ _
      _ = (eventsOfKind .done (eosAct u).trace).count .done := ((count_eventsOfKind _ _ _).trans (if_pos rfl)).symm
      _ = 1 := by rw [hdone, List.count_singleton_self]
  · exact ((perKind_flatten_perm (eosAct u).trace).filter _).length_eq.trans_le hincomplete

end Sys2Proof.Machine

/-! ### The line decoder's rows and the line code (30 R71; 41 R123, R124, R130 to R133) -/

namespace Sys2Proof.Machine

open Sys2Proof Sys2Proof.Claims

/-- The encoder's two samples of one LogicalBit: the level that a valid pair starts with, and the level moved by the bit
(41 R130). -/
theorem fmEncode_cons (l : LineState) (d : Bit) (ds : List Bit) :
    fmEncode l (d :: ds) = ~~~lineLevel l :: (lineLevel l ^^^ d) :: fmEncode (fmNext l d) ds := by
  cases l <;> rcases bit_cases d with rfl | rfl <;> rfl

/-- The encoded pair of a LogicalBit decodes to it, and moves the line state as the encoder does (41 R131). -/
theorem decodePair_encoded (l : LineState) (d : Bit) :
    decodePair (~~~lineLevel l) (lineLevel l ^^^ d) l = (some d, fmNext l d) := by
  cases l <;> rcases bit_cases d with rfl | rfl <;> rfl

theorem lineLevel_fmNext (l : LineState) (d : Bit) : lineLevel (fmNext l d) = lineLevel l ^^^ d :=
  lineLevel_lineOfLevel _

theorem decodeStep_of_decodePair {a b d : Bit} {l : LineState} {s : State} (h : decodePair a b s.ls = (some d, l)) :
    decodeStep a b s = validPair d l (countPair s) := by
  simp [decodeStep, h]

/-- Settles O9: the row is the encoded pair of its LogicalBit. -/
theorem validPairRowYieldsItsBit : Obligations.ValidPairRowYieldsItsBit := by
  unfold Obligations.ValidPairRowYieldsItsBit
  rintro l d s hfault hregs hlive rfl
  rw [exec_validRow, takePair_normal hfault hregs hlive rfl, decodeStep_of_decodePair (decodePair_encoded s.ls d)]
  rfl

/-- Settles O10: the row's first sample repeats the level of LS. -/
theorem invalidPairRowChangesOnlyItsCounters : Obligations.InvalidPairRowChangesOnlyItsCounters := by
  unfold Obligations.InvalidPairRowChangesOnlyItsCounters
  rintro l b s hfault hregs hlive rfl
  rw [exec_invalidRow, takePair_normal hfault hregs hlive rfl, decodeStep_invalid rfl]
  rfl

/-- Settles O46: the table is closed. -/
theorem decodePairIsTheTable : Obligations.DecodePairIsTheTable := by
  unfold Obligations.DecodePairIsTheTable
  decide

/-- The batch decoder takes the encoding back pair by pair, from any pair index (41 R131). -/
theorem decodeFrom_fmEncode (k : Nat) (s : LineState) (l : List Bit) :
    decodeFrom k s (fmEncode s l) = { bits := l, line := l.foldl fmNext s, errs := [] } := by
  induction l generalizing k s with
  | nil => rfl
  | cons d ds ih => rw [fmEncode_cons, decodeFrom_valid (decodePair_encoded s d), ih, List.foldl_cons]

/-- The last encoded sample is the level of the line state the encoder ends in (41 R130). -/
theorem getLast?_fmEncode (s : LineState) (l : List Bit) :
    (fmEncode s l).getLast?.getD (lineLevel s) = lineLevel (l.foldl fmNext s) := by
  induction l generalizing s with
  | nil => rfl
  | cons d ds ih =>
    rw [fmEncode_cons, List.getLast?_cons, List.getLast?_cons, Option.getD_some, Option.getD_some, ← lineLevel_fmNext,
      ih, List.foldl_cons]

/-- Settles O48, by induction on the LogicalBits. -/
theorem fmRoundTrip : Obligations.FmRoundTrip := by
  unfold Obligations.FmRoundTrip
  intro s l
  rw [decodeSeq, decodeFrom_fmEncode, getLast?_fmEncode]
  exact ⟨rfl, rfl, rfl⟩

end Sys2Proof.Machine

/-! ### The parity law (41 R132)

LS and the LogicalBits of the trace move together, when a LogicalBit is taken, and at no other point of a run. -/

namespace Sys2Proof.Machine

open Sys2Proof

/-- What writes neither LS nor the configuration and reports no LogicalBit keeps the law. -/
theorem parityLaw_of_same {s t : State} (h : ParityLaw s) (hcfg : t.cfg = s.cfg) (hls : t.ls = s.ls)
    (hbits : traceBits t.trace = traceBits s.trace) : ParityLaw t := by
  rw [ParityLaw, hcfg, hls, hbits]
  exact h

theorem bitTaken_parityLaw {s : State} (h : ParityLaw s) (d : Bit) : ParityLaw (bitTaken d s) := by
  have hmoved : fmNext s.ls d = (traceBits s.trace ++ [d]).foldl fmNext s.cfg.initLineState := by
    rw [List.foldl_concat, ← h]
  simpa [ParityLaw] using hmoved

theorem classifyBit_parityLaw {s : State} (h : ParityLaw s) (d : Bit) (p : Nat) : ParityLaw (classifyBit d p s) := by
  have hsame := classifyBit_decoderSame d p s
  exact parityLaw_of_same h hsame.cfg hsame.ls (classifyBit_classifierEmits d p s).decoded.1

theorem decodeStep_parityLaw {s : State} (h : ParityLaw s) (a b : Bit) : ParityLaw (decodeStep a b s) := by
  rcases decodeStep_split a b s with heq | ⟨d, heq⟩ <;> rw [heq]
  · exact parityLaw_of_same h rfl rfl (by simp [invalidPair])
  · exact classifyBit_parityLaw (bitTaken_parityLaw h d) d _

theorem sampleAct_parityLaw {s : State} (h : ParityLaw s) (b : Bit) : ParityLaw (sampleAct b s) := by
  have hunlatched : ParityLaw (unlatch (countCh s)) := h
  exact sampleAct_keeps h (decodeStep_parityLaw hunlatched s.ha b)

theorem eosAct_parityLaw {s : State} (h : ParityLaw s) : ParityLaw (eosAct s) := by
  have hsame := eosAct_decoderSame s
  exact parityLaw_of_same h hsame.cfg hsame.ls (eosAct_decoded s).1

theorem parityLaw_keptByHostMoves : KeptByHostMoves ParityLaw where
  taken _ h := h
  raised _ h := h
  restarted _ := resetWith_parityLaw _ _
  sampled b _ _ h := sampleAct_parityLaw h b
  ended _ _ h := eosAct_parityLaw h

/-- Settles O43, over the host's moves. -/
theorem hostStepsKeepTheParityLaw : Obligations.HostStepsKeepTheParityLaw := by
  unfold Obligations.HostStepsKeepTheParityLaw
  intro s t hfed hparity h
  exact parityLaw_keptByHostMoves.step hfed hparity h

end Sys2Proof.Machine

/-! ### The frame classifier's operations (42 R141, R143 to R147, R160, R161)

Each statement runs its row past the guards and then goes through the classifier's lemma for the branch taken. -/

namespace Sys2Proof.Machine

open Sys2Proof Sys2Proof.Claims

/-- Settles O13: below 11, the written bit and the bits beside it. -/
theorem frameBitWriteSetsOneBit : Obligations.FrameBitWriteSetsOneBit := by
  unfold Obligations.FrameBitWriteSetsOneBit
  intro w i j d hi hj
  exact frameBit_frameSet hi hj w d

/-- The window's newest bit is the bit pushed, and the two older ones are the newest two of before (42 R141). -/
theorem windowPush_bits (w : WindowWord) (d : Bit) :
    (windowPush w d).extractLsb' 0 1 = d ∧ (windowPush w d).extractLsb' 1 1 = w.extractLsb' 0 1 ∧
      (windowPush w d).extractLsb' 2 1 = w.extractLsb' 1 1 := by
  revert w d; decide

/-- WFILL saturates at 3 (10 R29). -/
theorem fillPush_toNat (n : BitVec 2) : (fillPush n).toNat = min (n.toNat + 1) 3 := by
  revert n; decide

/-- Settles O54: the window and its fill apart. -/
theorem windowPushAndFillByTheirBits : Obligations.WindowPushAndFillByTheirBits := by
  unfold Obligations.WindowPushAndFillByTheirBits
  intro w n d
  obtain ⟨hnewest, hmiddle, holdest⟩ := windowPush_bits w d
  exact ⟨hnewest, hmiddle, holdest, fillPush_toNat n⟩

theorem recClear_of_empty {s : State} (h : s.rcd = []) : recClear s = s := by
  rw [recClear, ← h]

/-- Settles O18: the second flush finds the Record empty. -/
theorem flushTwiceIsFlushOnce : Obligations.FlushTwiceIsFlushOnce := by
  unfold Obligations.FlushTwiceIsFlushOnce
  intro s
  exact ⟨flush_rcd s, (flush_empty (flush_rcd s)).trans (recClear_of_empty (flush_rcd s))⟩

/-- A valid pair row hands its LogicalBit to the classifier (41 R123, 42 R140). -/
theorem exec_validRow_live {d : Bit} {s : State} (hfault : s.fault = none) (hregs : RegsOk s) (hlive : s.fsm ≠ .done) :
    exec (validRow s.ls d) s = .next (classifyBit d s.nLb (bitTaken d s)) :=
  validPairRowYieldsItsBit s.ls d s hfault hregs hlive rfl

/-- Settles O11, by the test on the pushed window. -/
theorem bitWhileSearchingScansForTheMarker : Obligations.BitWhileSearchingScansForTheMarker := by
  unfold Obligations.BitWhileSearchingScansForTheMarker
  rintro l d s hfault hregs - hsearch rfl
  rw [exec_validRow_live hfault hregs (by simp [hsearch]), classifyBit_searching (s := bitTaken d s) hsearch]
  by_cases hmatch : fillPush s.wfill = 3#2 ∧ windowPush s.win d = 0b010#3
  · rw [if_pos hmatch, searchStep_match (s := bitTaken d s) hmatch.1 hmatch.2, List.append_cons]
    rfl
  · rw [if_neg hmatch, searchStep_slide (s := bitTaken d s) hmatch]
    rfl

/-- Settles O12: below the 11th bit the frame window is written; with it the Frame is consumed, which first clears the
window that the frame row's state has cleared already. -/
theorem bitInRecordFillsTheFrame : Obligations.BitInRecordFillsTheFrame := by
  unfold Obligations.BitInRecordFillsTheFrame
  rintro l d s hfault hregs - hrec rfl
  rw [exec_validRow_live hfault hregs (by simp [hrec]), classifyBit_inRecord (s := bitTaken d s) hrec]
  constructor
  · intro hroom
    rw [frameStep_store (s := bitTaken d s) hroom]
    rfl
  · intro hfull
    have hten : (bitTaken d s).ffill.toNat = 10 := by simp [hfull]
    have hcleared : RegsOk (setFrame 0#11 0#4 (bitTaken d s)) :=
      setFrame_regsOk (s := bitTaken d s) hregs hrec 0#11 (by decide)
    rw [frameStep_complete (by omega), hten, exec_decodeFrame]
    exact (takeFrameWord_normal (s := setFrame 0#11 0#4 (bitTaken d s)) hfault hcleared hrec).symm

/-- The marker row past its guard (42 R141). -/
theorem takeMarker_normal {first : Nat} {s : State} (hfault : s.fault = none) (hregs : RegsOk s) :
    takeMarker first s = .next (if s.fsm = .searching then markerTest first s else s) := by
  unfold takeMarker
  rw [withinStep_normal hfault hregs]
  split_ifs <;> rfl

/-- Settles O14: in SEARCHING by the marker test, and elsewhere nothing is tested. -/
theorem markerRowOpensARecord : Obligations.MarkerRowOpensARecord := by
  unfold Obligations.MarkerRowOpensARecord
  intro first s hfault hregs
  refine (takeMarker_normal hfault hregs).trans (congrArg _ ?_)
  by_cases hsearch : s.fsm = .searching
  · by_cases hmatch : s.wfill = 3#2 ∧ s.win = 0b010#3
    · rw [if_pos hsearch, if_pos ⟨hsearch, hmatch⟩, markerTest_match hmatch.1 hmatch.2]
      rfl
    · rw [if_pos hsearch, if_neg fun h => hmatch h.2, markerTest_other hmatch]
  · rw [if_neg hsearch, if_neg fun h => hsearch h.1]

/-- Settles O15: the END action on the consumed Frame. -/
theorem endFrameFlushesAndSearches : Obligations.EndFrameFlushesAndSearches := by
  unfold Obligations.EndFrameFlushesAndSearches
  intro q s hfault hregs hrec
  refine (takeFrameWord_normal hfault hregs hrec).trans (congrArg _ ?_)
  rw [takeFrame_end frameClass_end, frameEndAction, flush_eq_closed]
  rfl

/-- Settles O16: the VIOLATION action on the consumed Frame. -/
theorem violationFrameFlushesAndSearches : Obligations.ViolationFrameFlushesAndSearches := by
  unfold Obligations.ViolationFrameFlushesAndSearches
  intro w q s hclass hfault hregs hrec
  refine (takeFrameWord_normal hfault hregs hrec).trans (congrArg _ ?_)
  rw [takeFrame_violation hclass, frameViolAction, flush_eq_closed]
  rfl

/-- The DATA row in IN_RECORD is the DATA action of its byte on the consumed Frame (42 R144, R145). -/
theorem exec_frameData_inRecord {v : Byte} {q : Nat} {s : State} (hfault : s.fault = none) (hregs : RegsOk s)
    (hrec : s.fsm = .inRecord) : exec (.frameData v q) s = .next (frameDataAction v q (frameTaken s)) := by
  refine (takeFrameWord_normal hfault hregs hrec).trans (congrArg _ ?_)
  rw [takeFrame_data (frameClass_data v), frameByte_frameOfByte]

/-- Settles O17, without a sink and with room. -/
theorem dataFrameAppendsItsByte : Obligations.DataFrameAppendsItsByte := by
  unfold Obligations.DataFrameAppendsItsByte
  intro v q s hfault hregs hrec
  rw [exec_frameData_inRecord hfault hregs hrec]
  constructor
  · intro hnone
    rw [frameDataAction_noSink (s := frameTaken s) hnone]
    rfl
  · intro hsink hroom
    rw [frameDataAction_room (s := frameTaken s) hsink hroom.ne]
    rfl

/-- Settles O22: the append of the emitted byte raises. -/
theorem fullRecordRaisesOverflow : Obligations.FullRecordRaisesOverflow := by
  unfold Obligations.FullRecordRaisesOverflow
  intro v q s hfault hregs hrec hsink hfull
  rw [exec_frameData_inRecord hfault hregs hrec, frameDataAction_full (s := frameTaken s) hsink hfull]
  rfl

end Sys2Proof.Machine

/-! ### The block without a sink (42 R151)

The run without a sink is the image of the run with one under a map on states that forgets the sink and all it has led to.
Every operation of a run commutes with the map as long as it raises no RecordOverflow, which only a sink can bring about. -/

namespace Sys2Proof.Machine

open Sys2Proof

/-- The state with no sink attached, the bytes retained, what was handed out and the RECORD events forgotten (42 R151). -/
def sinkless (s : State) : State :=
  { s with
    cfg := { s.cfg with sinkAttached := false }
    rcd := []
    nRec := 0
    trace := s.trace.filter (fun e => !isRecordEvent e)
    sink := []
    tap := [] }

theorem sinkless_emit {e : Event} (h : isRecordEvent e = false) (s : State) :
    emit e (sinkless s) = sinkless (emit e s) := by
  simp [sinkless, emit, h]

/-- A flush hands the Record on, which is forgotten, and has no other effect than to clear it. -/
theorem sinkless_flush (s : State) : flush (sinkless s) = sinkless (flush s) := by
  rw [flush_empty (s := sinkless s) rfl]
  by_cases h : s.rcd = []
  · rw [flush_empty h]
    rfl
  · rw [flush_nonempty h]
    simp [sinkless, recClear, emit, countRec, recOut, serialise, deliver, isRecordEvent]

theorem sinkless_reachable {s : State} (h : Reachable s) : Reachable (sinkless s) := by
  obtain ⟨hregs, hcounts⟩ := (reachable_iff s).mp h
  obtain ⟨hused, hwfill, hffill, hframe, hlatch, -, -, -⟩ := (regsOk_iff s).mp hregs
  have hsinkless : RegsOk (sinkless s) :=
    (regsOk_iff _).mpr ⟨hused, hwfill, hffill, hframe, hlatch, .inr rfl, Nat.zero_le _, .inr rfl⟩
  exact (reachable_iff _).mpr ⟨hsinkless, hcounts⟩

theorem sinkless_markerMatch (first : Nat) (s : State) :
    markerMatch first (sinkless s) = sinkless (markerMatch first s) := by
  have hemitted : emit (.marker first) (countMark (sinkless s)) = sinkless (emit (.marker first) (countMark s)) :=
    sinkless_emit rfl (countMark s)
  rw [markerMatch, hemitted]
  rfl

theorem sinkless_searchStep (d : Bit) (p : Nat) (s : State) :
    searchStep d p (sinkless s) = sinkless (searchStep d p s) := by
  by_cases h : fillPush s.wfill = 3#2 ∧ windowPush s.win d = 0b010#3
  · obtain ⟨hfull, hmarker⟩ := h
    rw [searchStep_match hfull hmarker, searchStep_match (s := sinkless s) hfull hmarker]
    exact sinkless_markerMatch (p - 2) (setWindow 0b010#3 3#2 s)
  · rw [searchStep_slide h, searchStep_slide (s := sinkless s) h]
    rfl

/-- END and VIOLATION report the Frame, flush and search again, with a sink or without. -/
theorem sinkless_enterSearching_flush_emit {e : Event} (h : isRecordEvent e = false) (s : State) :
    enterSearching (flush (emit e (sinkless s))) = sinkless (enterSearching (flush (emit e s))) := by
  rw [sinkless_emit h, sinkless_flush]
  rfl

/-- A consumed Frame commutes with the map unless its byte overflows the Record. -/
theorem sinkless_takeFrame {w : FrameWord} {q : Nat} {s : State} (hfault : (takeFrame w q s).fault = none) :
    takeFrame w q (sinkless s) = sinkless (takeFrame w q s) := by
  have hdata (hclass : frameClass w = .data) :
      takeFrame w q (sinkless s) = sinkless (emit (.frameByte q (frameByte w)) (frameTaken s)) := by
    rw [takeFrame_data hclass, frameDataAction_noSink rfl]
    exact sinkless_emit rfl (frameTaken s)
  rcases takeFrame_cases w q s with
    ⟨hclass, heq⟩ | ⟨hclass, heq⟩ | ⟨hclass, -, heq⟩ | ⟨hclass, -, -, heq⟩ | ⟨-, -, -, heq⟩
  case inl =>
    rw [heq, takeFrame_end hclass]
    exact sinkless_enterSearching_flush_emit rfl (frameTaken s)
  case inr.inl =>
    rw [heq, takeFrame_violation hclass]
    exact sinkless_enterSearching_flush_emit rfl (frameTaken s)
  case inr.inr.inl => rw [heq, hdata hclass]
  case inr.inr.inr.inl =>
    rw [heq, hdata hclass]
    rfl
  case inr.inr.inr.inr => simp [heq] at hfault

theorem sinkless_frameStep {d : Bit} {p : Nat} {s : State} (hfault : (frameStep d p s).fault = none) :
    frameStep d p (sinkless s) = sinkless (frameStep d p s) := by
  by_cases h : s.ffill.toNat < 10
  · rw [frameStep_store h, frameStep_store (s := sinkless s) h]
    rfl
  · rw [frameStep_complete h] at hfault
    rw [frameStep_complete h, frameStep_complete (s := sinkless s) h]
    exact sinkless_takeFrame hfault

theorem sinkless_classifyBit {d : Bit} {p : Nat} {s : State} (hfault : (classifyBit d p s).fault = none) :
    classifyBit d p (sinkless s) = sinkless (classifyBit d p s) := by
  cases h : s.fsm with
  | searching =>
    rw [classifyBit_searching h, classifyBit_searching (s := sinkless s) h]
    exact sinkless_searchStep d p s
  | inRecord =>
    rw [classifyBit_inRecord h] at hfault
    rw [classifyBit_inRecord h, classifyBit_inRecord (s := sinkless s) h]
    exact sinkless_frameStep hfault
  | done => simp [classifyBit, h, sinkless]
  | unused => simp [classifyBit, h, sinkless]

/-- The line decoder does not see the sink. -/
theorem sinkless_decodeStep {a b : Bit} {s : State} (hfault : (decodeStep a b s).fault = none) :
    decodeStep a b (sinkless s) = sinkless (decodeStep a b s) := by
  by_cases h : a = lineLevel s.ls
  · rw [decodeStep_invalid h, decodeStep_invalid (s := sinkless s) h]
    exact sinkless_emit rfl (countErr (countPair s))
  · rw [decodeStep_valid h] at hfault
    rw [decodeStep_valid h, decodeStep_valid (s := sinkless s) h, validPair, validPair]
    exact (congrArg _ (sinkless_emit rfl (countLb (setLs (lineOfLevel b) (countPair s))))).trans
      (sinkless_classifyBit hfault)

theorem sinkless_sampleAct {b : Bit} {s : State} (hfault : (sampleAct b s).fault = none) :
    sampleAct b (sinkless s) = sinkless (sampleAct b s) := by
  rcases sampleAct_cases b s with ⟨hv, heq⟩ | ⟨hv, heq⟩
  · rw [heq, sampleAct_first (s := sinkless s) hv]
    rfl
  · rw [heq] at hfault
    rw [heq, sampleAct_second (s := sinkless s) hv]
    exact sinkless_decodeStep hfault

theorem sinkless_closeRecord (s : State) : closeRecord (sinkless s) = sinkless (closeRecord s) := by
  by_cases h : s.fsm = .inRecord
  · rw [closeRecord_inRecord h, closeRecord_inRecord (s := sinkless s) h, endOfRecordStream, endOfRecordStream,
      ← sinkless_flush, ← sinkless_emit rfl]
    rfl
  · rw [closeRecord_other h, closeRecord_other (s := sinkless s) h]

theorem sinkless_eosAct (s : State) : eosAct (sinkless s) = sinkless (eosAct s) := by
  have hclosed : closeRecord (unlatch (sinkless s)) = sinkless (closeRecord (unlatch s)) :=
    sinkless_closeRecord (unlatch s)
  rw [eosAct, eosAct, hclosed, ← sinkless_emit rfl]
  rfl

/-- A guarded symbol that answers a state without a fault passed its guards, and passes them without a sink too. -/
theorem sinkless_takeSymbol {act : State → State} {s t : State}
    (hact : (act s).fault = none → act (sinkless s) = sinkless (act s)) (h : takeSymbol act s = .next t)
    (hfault : t.fault = none) : s.fault = none ∧ takeSymbol act (sinkless s) = .next (sinkless t) := by
  obtain ⟨hlive, ⟨hreach, hrunning, rfl⟩ | ⟨r, rfl⟩⟩ := takeSymbol_next h
  · refine ⟨hlive, ?_⟩
    rw [takeSymbol_normal (s := sinkless s) hlive (sinkless_reachable hreach) hrunning, hact hfault]
  · simp at hfault

theorem sinkless_exec {i : Instr} {ch : List Bit} {s t : State} (hi : i ∈ channelSymbols ch) (h : exec i s = .next t)
    (hfault : t.fault = none) : s.fault = none ∧ exec i (sinkless s) = .next (sinkless t) := by
  rcases List.mem_append.mp hi with hsample | heos
  · obtain ⟨b, -, rfl⟩ := List.mem_map.mp hsample
    exact sinkless_takeSymbol sinkless_sampleAct h hfault
  · obtain rfl := List.mem_singleton.mp heos
    exact sinkless_takeSymbol (fun _ => sinkless_eosAct s) h hfault

/-- A run without a fault maps to the run without a sink, symbol by symbol. -/
theorem sinkless_feed {is : List Instr} {ch : List Bit} {s t : State} (his : is ⊆ channelSymbols ch)
    (h : feed is s = .next t) (hfault : t.fault = none) :
    s.fault = none ∧ feed is (sinkless s) = .next (sinkless t) := by
  induction is generalizing s with
  | nil =>
    cases h
    exact ⟨hfault, rfl⟩
  | cons i is ih =>
    obtain ⟨hi, hrest⟩ := List.cons_subset.mp his
    obtain ⟨u, hexec, hfeed⟩ := feed_cons_next h
    obtain ⟨hlive, hfeed'⟩ := ih hrest hfeed
    obtain ⟨hstart, hexec'⟩ := sinkless_exec hi hexec hlive
    exact ⟨hstart, by simp only [feed, hexec', hfeed']⟩

theorem sinkless_decoderEvents (s : State) : decoderEvents (sinkless s).trace = decoderEvents s.trace := by
  have hdecoder (e : Event) : (isDecoderEvent e && !isRecordEvent e) = isDecoderEvent e := by cases e <;> rfl
  simp [decoderEvents, sinkless, List.filter_filter, hdecoder]

theorem sinkless_classifierEvents (s : State) :
    classifierEvents (sinkless s).trace = (classifierEvents s.trace).filter (fun e => !isRecordEvent e) :=
  List.filter_comm _ _ _

/-- Settles O51: the run without a sink is the image of the run with one. -/
theorem sinkDecidesOnlyWhetherBytesAreRetained : Obligations.SinkDecidesOnlyWhetherBytesAreRetained := by
  unfold Obligations.SinkDecidesOnlyWhetherBytesAreRetained
  intro c ws ch is t u _ hprefix hrun hfault hrun'
  obtain ⟨-, himage⟩ := sinkless_feed hprefix.subset hrun hfault
  obtain rfl : sinkless t = u := Host.Outcome.next.inj (himage.symm.trans hrun')
  exact ⟨sinkless_decoderEvents t, sinkless_classifierEvents t, rfl, rfl, hfault, rfl, rfl, rfl⟩

end Sys2Proof.Machine

/-! ### Input after the end, ignored input and the emitter (30 R70, R77; 60 R206, R216, R220, R230, R231) -/

namespace Sys2Proof.Machine

open Sys2Proof Sys2Proof.Claims

/-- Settles O8: the row's arm answers the state it is given. -/
theorem otherCharactersAreIgnored : Obligations.OtherCharactersAreIgnored := by
  unfold Obligations.OtherCharactersAreIgnored
  exact fun _ _ => rfl

theorem serialise_nonempty {r : Record} (h : r ≠ []) (s : State) :
    serialise r s = { s with tap := s.tap ++ (le32 r.length ++ r ++ le32 r.length) } := by
  simp [serialise, emitRecord_nonempty h]

theorem serialise_empty (s : State) : serialise [] s = s := by
  simp [serialise]

/-- Settles O20: the row is a call of the emitter. -/
theorem tapRowSerialisesTheRecord : Obligations.TapRowSerialisesTheRecord := by
  unfold Obligations.TapRowSerialisesTheRecord
  intro p s
  have hexec : exec (.tapRecord p) s = .next (serialise p s) := rfl
  constructor
  · intro hp
    rw [hexec, serialise_nonempty hp]
  · rintro rfl
    rw [hexec, serialise_empty]

/-- The emitter writes exactly the Records that are not empty, each between two length fields (60 R203, R230). -/
theorem emitRecord_eq_some_iff {r : Record} {bytes : List Byte} :
    emitRecord r = some bytes ↔ r ≠ [] ∧ bytes = le32 r.length ++ r ++ le32 r.length := by
  by_cases h : r = []
  · simp [h]
  · simp [emitRecord_nonempty h, h, eq_comm]

/-- Settles O21: the two fields are the four bytes of one number, on either side of the payload. -/
theorem tapLengthFieldsGiveTheByteCount : Obligations.TapLengthFieldsGiveTheByteCount := by
  unfold Obligations.TapLengthFieldsGiveTheByteCount
  intro r bytes hle hemit
  obtain ⟨-, rfl⟩ := emitRecord_eq_some_iff.mp hemit
  obtain ⟨b0, b1, b2, b3, hfield, hvalue⟩ := exists_le32_eq hle
  rw [hfield]
  have hlast : ([b0, b1, b2, b3] ++ r ++ [b0, b1, b2, b3]).drop (4 + r.length) = [b0, b1, b2, b3] :=
    List.drop_left' (by simp; omega)
  exact ⟨b0, b1, b2, b3, rfl, hlast, hvalue⟩

/-- Settles O23: in DONE the guards of SAMPLE and EOS and that of the pair rows raise. -/
theorem inputAfterTheEndIsAProtocolViolation : Obligations.InputAfterTheEndIsAProtocolViolation := by
  unfold Obligations.InputAfterTheEndIsAProtocolViolation
  intro i s hfault hdone
  constructor
  · intro hsymbol hreach
    obtain hsample | rfl := hsymbol
    · obtain ⟨b, hb⟩ := Option.isSome_iff_exists.mp hsample
      rw [exec_of_sampleOf hb]
      exact takeSymbol_done hfault hreach hdone
    · exact takeSymbol_done hfault hreach hdone
  · intro l d hrow hregs
    obtain rfl | rfl := hrow
    · rw [exec_validRow]
      exact takePair_done hfault hregs hdone
    · rw [exec_invalidRow]
      exact takePair_done hfault hregs hdone

theorem step_of_no_input {s : State} (h : s.input = []) : step s = .next s := by
  have hfetch : fetch s = none := by simp only [fetch, h]
  simp only [step, hfetch]

/-- A word that decodes to no instruction is taken, and then held or refused by its error. -/
theorem step_of_decode_error {s : State} {w : FormatWord} {ws : List FormatWord} {e : DecodeError}
    (hinput : s.input = w :: ws) (hdecode : decode w = .error e) : step s = onNoInstr e { s with input := ws } := by
  have hfetch : fetch s = some (w, setInput ws s) := by simp only [fetch, hinput]
  simp only [step, hfetch, hdecode]
  rfl

/-- The wire words without a symbol are those with only the bit `in_bit` (30 R70). -/
theorem decode_inSym_noSymbol {w : BitVec 4} (h : w.toNat < 2) : decode (.inSym w) = .error .noSymbol := by
  revert w; decide

/-- The wire words in which two or more of `rst, in_eos, in_valid` are set (30 R70). -/
theorem decode_inSym_severalSymbols {w : BitVec 4} (h : w.toNat = 6 ∨ w.toNat = 7 ∨ 10 ≤ w.toNat) :
    decode (.inSym w) = .error .severalSymbols := by
  revert w; decide

theorem decode_syncMarker_notMarker {w : WindowWord} (h : w ≠ 0b010#3) (p : Nat) :
    decode (.syncMarker w p) = .error .notMarker := if_neg h

/-- Settles O36, by what each presented word decodes to. -/
theorem stepWithoutASymbolHoldsTheState : Obligations.StepWithoutASymbolHoldsTheState := by
  unfold Obligations.StepWithoutASymbolHoldsTheState
  intro s ws
  refine ⟨step_of_no_input, fun w hinput hidle => ?_, fun w p hinput hother => ?_, fun w hinput hseveral => ?_⟩
  · exact step_of_decode_error hinput (decode_inSym_noSymbol hidle)
  · exact step_of_decode_error hinput (decode_syncMarker_notMarker hother p)
  · exact step_of_decode_error hinput (decode_inSym_severalSymbols hseveral)

end Sys2Proof.Machine

/-! ### Whatever the input, the run ends normally (40 R105, 60 R204)

Only the append of a byte to a full Record faults. What the batch process still has to hand on from the state (`forecast`)
then holds a Record longer than rec_cap: the full one, which is open, with that byte. -/

namespace Sys2Proof.Machine

open Sys2Proof

/-! #### The Records of the scan -/

theorem mem_refFlushOut {rec r : Record} (h : r ∈ refFlushOut rec) : r = rec := by
  unfold refFlushOut at h
  split at h
  · cases h
  · exact List.mem_singleton.mp h

theorem self_mem_refFlushOut {rec : Record} (h : rec ≠ []) : rec ∈ refFlushOut rec := by
  simp [refFlushOut, h]

/-- The scan hands an open Record on with all of its bytes, and those that follow (42 R165). -/
theorem exists_mem_scan_prefix {rec : Record} (hrec : rec ≠ []) (i : Nat) (l : List Bit) :
    ∃ r ∈ (scan true i rec l).out, rec <+: r := by
  have hself : rec ∈ refFlushOut rec := self_mem_refFlushOut hrec
  by_cases hshort : l.length < 11
  · rw [scan_record_short hshort]
    exact ⟨rec, hself, List.prefix_rfl⟩
  · rw [scan_record hshort]
    split_ifs
    · exact ⟨rec, List.mem_append_left _ hself, List.prefix_rfl⟩
    · obtain ⟨r, hr, hprefix⟩ := exists_mem_scan_prefix (rec := rec ++ [BitVec.ofNat 8 (bitsValue (l.take 8))])
        (by simp) (i + 11) (l.drop 11)
      exact ⟨r, hr, (List.prefix_append _ _).trans hprefix⟩
    · exact ⟨rec, List.mem_append_left _ hself, List.prefix_rfl⟩
termination_by l.length
decreasing_by rw [List.length_drop]; omega

/-- A Record has at most a byte for each bit that the scan takes for it (42 R165). -/
theorem length_le_of_mem_scan {inRec : Bool} {i : Nat} {rec r : Record} {l : List Bit}
    (h : r ∈ (scan inRec i rec l).out) : r.length ≤ rec.length + l.length := by
  cases inRec with
  | false =>
    by_cases hshort : l.length < 3
    · rw [scan_search_short hshort] at h
      cases h
    · rw [scan_search hshort] at h
      split_ifs at h
      · have hrest := length_le_of_mem_scan (h : r ∈ (scan true (i + 3) [] (l.drop 3)).out)
        simp only [List.length_nil, List.length_drop] at hrest
        omega
      · have hrest := length_le_of_mem_scan h
        rw [List.length_drop] at hrest
        omega
  | true =>
    have hflushed (hr : r ∈ refFlushOut rec) : r.length ≤ rec.length + l.length := by
      rw [mem_refFlushOut hr]
      exact Nat.le_add_right _ _
    by_cases hshort : l.length < 11
    · rw [scan_record_short hshort] at h
      exact hflushed h
    · have hsearch (h : r ∈ refFlushOut rec ++ (scan false (i + 11) [] (l.drop 11)).out) :
          r.length ≤ rec.length + l.length := by
        rcases List.mem_append.mp h with hr | hr
        · exact hflushed hr
        · have hrest := length_le_of_mem_scan hr
          simp only [List.length_nil, List.length_drop] at hrest
          omega
      rw [scan_record hshort] at h
      split_ifs at h
      · exact hsearch h
      · have hrest := length_le_of_mem_scan
          (h : r ∈ (scan true (i + 11) (rec ++ [BitVec.ofNat 8 (bitsValue (l.take 8))]) (l.drop 11)).out)
        simp only [List.length_append, List.length_singleton, List.length_drop] at hrest
        omega
      · exact hsearch h
termination_by l.length
decreasing_by all_goals rw [List.length_drop]; omega

/-- A pair yields at most one LogicalBit (40 R106). -/
theorem length_bits_decodeFrom (k : Nat) (s : LineState) :
    (l : List Bit) → (decodeFrom k s l).bits.length ≤ l.length
  | [] => Nat.zero_le _
  | [_] => Nat.zero_le _
  | a :: b :: l => by
    by_cases h : a = lineLevel s
    · rw [decodeFrom_invalid h]
      exact (length_bits_decodeFrom (k + 1) s l).trans (Nat.le_add_right _ 2)
    · rw [decodeFrom_valid (decodePair_valid h)]
      exact (Nat.succ_le_succ (length_bits_decodeFrom (k + 1) (lineOfLevel b) l)).trans (Nat.le_succ _)

/-- No Record of the batch process has more bytes than the channel sequence has samples. -/
theorem length_le_of_mem_runSeq {ch : List Bit} {s : LineState} {r : Record} (h : r ∈ (runSeq ch s).out) :
    r.length ≤ ch.length := by
  have hscan : r ∈ (scan false 0 [] (decodeSeq ch s).bits).out := h
  calc r.length ≤ 0 + (decodeSeq ch s).bits.length := length_le_of_mem_scan hscan
    _ = (decodeSeq ch s).bits.length := Nat.zero_add _
    _ ≤ ch.length := length_bits_decodeFrom 0 s ch

/-! #### No operation of a run overflows the Record -/

/-- The proviso of 60 R204: none of the Records is longer than rec_cap, or there is no sink. -/
def WithinCapacity (c : Cfg) (rs : List Record) : Prop := c.sinkAttached = true → ∀ r ∈ rs, r.length ≤ c.recCap

theorem WithinCapacity.right {c : Cfg} {rs rs' : List Record} (h : WithinCapacity c (rs ++ rs')) :
    WithinCapacity c rs' := fun hsink r hr => h hsink r (List.mem_append_right rs hr)

/-- A DATA Frame in a full Record is one from which the scan hands on a longer one. -/
theorem takeFrame_fault {s : State} {w : FrameWord} {q : Nat} {l : List Bit} (hlive : s.fault = none)
    (hfits : WithinCapacity s.cfg (scan true q s.rcd (frameBits w 11 ++ l)).out) :
    (takeFrame w q s).fault = none := by
  rcases takeFrame_cases w q s with
    ⟨-, heq⟩ | ⟨-, heq⟩ | ⟨-, -, heq⟩ | ⟨-, -, -, heq⟩ | ⟨hclass, hsink, hfull, -⟩
  case inr.inr.inr.inr =>
    exfalso
    rw [scan_record_frame, hclass] at hfits
    obtain ⟨r, hr, hprefix⟩ := exists_mem_scan_prefix (rec := s.rcd ++ [frameByte w]) (by simp) (q + 11) l
    have hle : r.length ≤ s.cfg.recCap := hfits hsink r hr
    have hlonger : s.rlen + 1 ≤ r.length := by simpa using hprefix.length_le
    omega
  all_goals simp [heq, hlive]

theorem classifyBit_fault {s : State} {d : Bit} {p : Nat} {l : List Bit} (hffill : s.ffill.toNat ≤ 10)
    (hlive : s.fault = none) (hfits : WithinCapacity s.cfg (scanAhead p s (d :: l)).out) :
    (classifyBit d p s).fault = none := by
  rcases classifyBit_cases d p s with
    ⟨-, -, heq⟩ | ⟨-, -, heq⟩ | ⟨-, -, -, heq⟩ | ⟨-, -, heq⟩ | ⟨hrec, hfull, heq⟩ <;> rw [heq]
  case inr.inr.inr.inr =>
    have hten : s.ffill.toNat = 10 := by omega
    rw [scanAhead_complete hrec hten] at hfits
    rw [hten]
    exact takeFrame_fault hlive hfits
  all_goals simp [markerMatch, hlive]

theorem decodeStep_fault {s : State} {a b : Bit} {l : List Bit} (hregs : RegsOk s) (hlive : s.fault = none)
    (hfits : WithinCapacity s.cfg (forecast s (a :: b :: l)).scanned.out) : (decodeStep a b s).fault = none := by
  rcases decodeStep_cases a b s with ⟨-, heq⟩ | ⟨d, -, hpair, heq⟩ <;> rw [heq]
  · exact hlive
  · obtain ⟨-, -, hffill, -, -, -, -, -⟩ := (regsOk_iff s).mp hregs
    have hahead : WithinCapacity s.cfg (scanAhead s.nLb s (decodeFrom s.nPair s.ls (a :: b :: l)).bits).out :=
      WithinCapacity.right hfits
    rw [decodeFrom_valid hpair] at hahead
    exact classifyBit_fault (s := bitTaken d s) hffill hlive hahead

theorem sampleAct_fault {s : State} {b : Bit} {l : List Bit} (hregs : RegsOk s) (hlive : s.fault = none)
    (hfits : WithinCapacity s.cfg (forecast s (heldSample s ++ b :: l)).scanned.out) :
    (sampleAct b s).fault = none := by
  rcases sampleAct_cases b s with ⟨-, heq⟩ | ⟨hv, heq⟩ <;> rw [heq]
  · exact hlive
  · have hone : heldSample s = [s.ha] := by simp [heldSample, hv]
    have hcounted : RegsOk (countCh s) := hregs
    rw [hone] at hfits
    exact decodeStep_fault (s := unlatch (countCh s)) (unlatch_regsOk hcounted) hlive hfits

/-! #### Only EOS ends a run, and it ends it -/

theorem takeFrame_running {s : State} (h : s.fsm ≠ .done) (w : FrameWord) (q : Nat) : (takeFrame w q s).fsm ≠ .done := by
  rcases takeFrame_cases w q s with
    ⟨-, heq⟩ | ⟨-, heq⟩ | ⟨-, -, heq⟩ | ⟨-, -, -, heq⟩ | ⟨-, -, -, heq⟩ <;> rw [heq] <;> simp [h]

theorem classifyBit_running {s : State} (h : s.fsm ≠ .done) (d : Bit) (p : Nat) : (classifyBit d p s).fsm ≠ .done := by
  rcases classifyBit_cases d p s with
    ⟨-, -, heq⟩ | ⟨-, -, heq⟩ | ⟨-, -, -, heq⟩ | ⟨-, -, heq⟩ | ⟨-, -, heq⟩ <;> rw [heq]
  case inr.inr.inr.inr => exact takeFrame_running h _ _
  all_goals simp [markerMatch, h]

theorem decodeStep_running {s : State} (h : s.fsm ≠ .done) (a b : Bit) : (decodeStep a b s).fsm ≠ .done := by
  rcases decodeStep_split a b s with heq | ⟨d, heq⟩ <;> rw [heq]
  · exact h
  · exact classifyBit_running (s := bitTaken d s) h d _

theorem sampleAct_running {s : State} (h : s.fsm ≠ .done) (b : Bit) : (sampleAct b s).fsm ≠ .done :=
  sampleAct_keeps (P := fun t => t.fsm ≠ .done) h (decodeStep_running (s := unlatch (countCh s)) h s.ha b)

theorem eosAct_fault (s : State) : (eosAct s).fault = s.fault := by
  rcases closeRecord_cases (unlatch s) with ⟨-, heq⟩ | ⟨-, heq⟩ <;> simp [eosAct, heq]

theorem eosAct_normalEnd {s : State} (h : s.fault = none) : NormalEnd (eosAct s) := ⟨rfl, (eosAct_fault s).trans h⟩

/-! #### The run -/

/-- A state of a run from which the samples `ch` and EOS lead to a normal end: the run goes on, and what the batch process
makes of the samples keeps within rec_cap. -/
structure Unfaulted (s : State) (ch : List Bit) : Prop where
  live : s.fault = none
  running : s.fsm ≠ .done
  reachable : Reachable s
  positions : PositionsOk s
  fits : WithinCapacity s.cfg (forecast s (heldSample s ++ ch)).scanned.out

theorem Unfaulted.sampleAct {s : State} {b : Bit} {ch : List Bit} (h : Unfaulted s (b :: ch)) :
    Unfaulted (sampleAct b s) ch where
  live := sampleAct_fault (regsOk_of_reachable h.reachable) h.live h.fits
  running := sampleAct_running h.running b
  reachable := reachable_keptByHostMoves.sampled b h.reachable h.running h.reachable
  positions := sampleAct_positionsOk h.positions b
  fits := by
    rw [sampleAct_cfg]
    intro hsink
    have hregs : RegsOk s := regsOk_of_reachable h.reachable
    rw [forecast_sampleAct hregs h.positions hsink (sampleAct_fault hregs h.live h.fits)]
    exact h.fits hsink

theorem feed_cons_of_exec {i : Instr} {s t : State} (h : exec i s = .next t) (is : List Instr) :
    feed (i :: is) s = feed is t := by
  simp only [feed, h]

theorem Unfaulted.run {s : State} {ch : List Bit} (h : Unfaulted s ch) :
    ∃ t, feed (channelSymbols ch) s = .next t ∧ NormalEnd t := by
  induction ch generalizing s with
  | nil =>
    have hexec : exec .eos s = .next (eosAct s) := takeSymbol_normal h.live h.reachable h.running
    exact ⟨eosAct s, feed_cons_of_exec hexec [], eosAct_normalEnd h.live⟩
  | cons b ch ih =>
    have hexec : exec (.sample b) s = .next (Machine.sampleAct b s) := takeSymbol_normal h.live h.reachable h.running
    obtain ⟨t, hrun, hend⟩ := ih h.sampleAct
    exact ⟨t, (feed_cons_of_exec hexec (channelSymbols ch)).trans hrun, hend⟩

/-- Settles O55, by induction on the channel sequence. -/
theorem inputWhoseRecordsFitNeverFaults : Obligations.InputWhoseRecordsFitNeverFaults := by
  unfold Obligations.InputWhoseRecordsFitNeverFaults
  intro c ws ch _ hproviso
  have hfits : WithinCapacity c (runSeq ch c.initLineState).out := by
    intro hsink
    exact hproviso.resolve_left (by simp [hsink])
  have hstart : Unfaulted (State.resetWith c ws) ch :=
    ⟨rfl, nofun, resetWith_reachable c ws, resetWith_positionsOk c ws, hfits⟩
  exact hstart.run

/-- Settles O27: the Records of a sequence are no longer than it, so that O55 applies. -/
theorem malformedInputNeverFaults : Obligations.MalformedInputNeverFaults := by
  unfold Obligations.MalformedInputNeverFaults
  intro c ws ch hwf hproviso
  refine inputWhoseRecordsFitNeverFaults c ws ch hwf (hproviso.imp_right fun hshort r hr => ?_)
  exact (length_le_of_mem_runSeq hr).trans hshort

end Sys2Proof.Machine

/-! ### RESET, the configuration and the wrong line state (00 R8; 10 R36; 40 R103; 70 R250, R251, R255, R257) -/

namespace Sys2Proof.Machine

open Sys2Proof

/-- Settles O6: RESET's writes are the reset state under the configuration held. -/
theorem resetStartsANewRun : Obligations.ResetStartsANewRun := by
  unfold Obligations.ResetStartsANewRun
  intro s
  refine ⟨State.resetWith s.cfg s.input, rfl, ?_⟩
  simp only [State.resetWith, and_self]

/-! #### What the host alone sets: the configuration and the words to be presented -/

/-- `t` has the configuration and the words still to be presented of `s`. -/
def HostInputsSame (s t : State) : Prop := t.cfg = s.cfg ∧ t.input = s.input

theorem DecoderSame.hostInputsSame {s t : State} (h : DecoderSame s t) : HostInputsSame s t := ⟨h.cfg, h.input⟩

theorem decodeStep_hostInputsSame (a b : Bit) (s : State) : HostInputsSame s (decodeStep a b s) := by
  rcases decodeStep_split a b s with heq | ⟨d, heq⟩ <;> rw [heq]
  · exact ⟨rfl, rfl⟩
  · exact (classifyBit_decoderSame d s.nLb (bitTaken d s)).hostInputsSame

theorem sampleAct_hostInputsSame (b : Bit) (s : State) : HostInputsSame s (sampleAct b s) :=
  sampleAct_keeps (P := HostInputsSame s) ⟨rfl, rfl⟩ (decodeStep_hostInputsSame s.ha b (unlatch (countCh s)))

/-- Settles O28, over the cases of exec. -/
theorem noInstructionChangesTheConfiguration : Obligations.NoInstructionChangesTheConfiguration := by
  unfold Obligations.NoInstructionChangesTheConfiguration
  intro i s t h
  cases exec_cases h with
  | held => exact ⟨rfl, rfl⟩
  | raised r => exact ⟨rfl, rfl⟩
  | sampled b => exact sampleAct_hostInputsSame b s
  | ended => exact (eosAct_decoderSame s).hostInputsSame
  | restarted => exact ⟨rfl, rfl⟩
  | paired a b => exact decodeStep_hostInputsSame a b s
  | marked first => exact (markerTest_decoderSame first s).hostInputsSame
  | framed w q => exact (takeFrame_decoderSame w q s).hostInputsSame
  | emitted e => exact ⟨rfl, rfl⟩
  | serialised p => exact ⟨rfl, rfl⟩

/-! #### The host's choice of the configuration -/

theorem cfg_wf_iff (c : Cfg) : c.wf = true ↔ 1 ≤ c.recCap ∧ c.recCap ≤ 4294967295 := by
  rw [Cfg.wf, Bool.and_eq_true, decide_eq_true_eq, decide_eq_true_eq, Config.maxRecCap]

theorem betweenRuns_iff (s : State) : betweenRuns s = true ↔ s.fsm = .done ∨ s.fault ≠ none ∨ s.nCh = 0 := by
  simp only [betweenRuns, Bool.or_eq_true, decide_eq_true_eq, Option.isSome_iff_ne_none, or_assoc]

theorem configure_betweenRuns {c : Cfg} {s : State} (hwf : c.wf = true) (h : betweenRuns s = true) :
    configure c s = .next (State.resetWith c s.input) := by
  rw [configure, if_pos hwf, if_pos h]
  rfl

theorem configure_inRun {c : Cfg} {s : State} (hwf : c.wf = true) (h : ¬ betweenRuns s = true) :
    configure c s = .refused .configurationInRun := by
  rw [configure, if_pos hwf, if_neg h]

theorem configure_outOfDomain {c : Cfg} {s : State} (hwf : ¬ c.wf = true) :
    configure c s = .refused .configurationOutOfDomain := if_neg hwf

/-- Settles O53: the three branches of the move, their guards read as conditions on the configuration and the state. -/
theorem configurationChangesOnlyBetweenRuns : Obligations.ConfigurationChangesOnlyBetweenRuns := by
  unfold Obligations.ConfigurationChangesOnlyBetweenRuns
  intro c s
  refine ⟨fun hwf h => configure_betweenRuns hwf ((betweenRuns_iff s).mpr h), fun hwf hlive hfault hch => ?_,
    fun hdomain => configure_outOfDomain (mt (cfg_wf_iff c).mp hdomain)⟩
  have hrun : ¬ betweenRuns s = true := by simp [betweenRuns_iff, hlive, hfault, hch]
  exact configure_inRun hwf hrun

/-! #### Decoding from the wrong line state -/

theorem lineLevel_of_ne {s s' : LineState} (h : s' ≠ s) : lineLevel s' = ~~~lineLevel s := by
  revert h; cases s <;> cases s' <;> decide

/-- A LogicalBit 0 leaves the line level as it was (41 R130). -/
theorem fmNext_zero (s : LineState) : fmNext s 0#1 = s := by cases s <;> rfl

/-- A LogicalBit 1 moves the line to its other level (41 R130). -/
theorem fmNext_one_of_ne {s s' : LineState} (h : s' ≠ s) : fmNext s 1#1 = s' := by
  revert h; cases s <;> cases s' <;> decide

/-- From the wrong line state the first encoded pair is invalid, whatever its LogicalBit: its first sample is the level
the decoder holds, which an invalid pair does not move (41 R124). -/
theorem decodeFrom_fmEncode_cons_of_ne {s s' : LineState} (h : s' ≠ s) (k : Nat) (d : Bit) (l : List Bit) :
    decodeFrom k s' (fmEncode s (d :: l)) =
      { decodeFrom (k + 1) s' (fmEncode (fmNext s d) l) with
        errs := (k, ~~~lineLevel s, lineLevel s ^^^ d) :: (decodeFrom (k + 1) s' (fmEncode (fmNext s d) l)).errs } := by
  rw [fmEncode_cons, decodeFrom_invalid (lineLevel_of_ne h).symm]

/-- The zeros leave the encoder's line where it was; the first 1 moves it to the decoder's, and from there the rest
decodes (41 R131), from any pair index. -/
theorem decodeFrom_fmEncode_of_ne {s s' : LineState} (h : s' ≠ s) (k n : Nat) (l : List Bit) :
    (decodeFrom k s' (fmEncode s (List.replicate n 0#1 ++ 1#1 :: l))).bits = l ∧
      (decodeFrom k s' (fmEncode s (List.replicate n 0#1 ++ 1#1 :: l))).errs.length = n + 1 := by
  induction n generalizing k with
  | zero =>
    rw [List.replicate_zero, List.nil_append, decodeFrom_fmEncode_cons_of_ne h, fmNext_one_of_ne h, decodeFrom_fmEncode]
    exact ⟨rfl, rfl⟩
  | succ n ih =>
    obtain ⟨hbits, herrs⟩ := ih (k + 1)
    rw [List.replicate_succ, List.cons_append, decodeFrom_fmEncode_cons_of_ne h, fmNext_zero]
    exact ⟨hbits, congrArg Nat.succ herrs⟩

/-- Settles O49, by induction on the number of encoded 0s before the first 1. -/
theorem wrongInitialLineStateLosesUpToTheFirstOne : Obligations.WrongInitialLineStateLosesUpToTheFirstOne := by
  unfold Obligations.WrongInitialLineStateLosesUpToTheFirstOne
  intro s s' n l h
  exact decodeFrom_fmEncode_of_ne h 0 n l

end Sys2Proof.Machine

/-! ### The record of the outputs at RESET, and the host's fetch words (70 R250; log entries 1, 3, 4 and 10)

A table word is placed together with what its format needs, so the instruction it decodes to passes its guards: in the reset
state itself for a symbol or a character, with LS as the pair word names it, and in IN_RECORD for a Frame word. -/

namespace Sys2Proof.Machine

open Sys2Proof Sys2Proof.Claims

/-- Settles O7: RESET's writes are the reset state with the words still to be presented. -/
theorem resetRestartsTheOutputRecord : Obligations.ResetRestartsTheOutputRecord := by
  unfold Obligations.ResetRestartsTheOutputRecord
  intro s
  exact ⟨State.resetWith s.cfg s.input, rfl, rfl, rfl, rfl⟩

theorem placeWord_input (w : FormatWord) (s : State) : (placeWord w s).input = w :: s.input := by
  cases w <;> rfl

/-- The words of windows, events and TAP Records are not table words (log entry 3). -/
theorem tableWord_format (nbits w : Nat) :
    (tableWord nbits w).format = .inSym ∨ (tableWord nbits w).format = .textIn ∨
      (tableWord nbits w).format = .fmPair ∨ (tableWord nbits w).format = .frame := by
  unfold tableWord
  split_ifs <;> simp [FormatWord.format]

theorem decode_tableWord_of_decodeTableWord {nbits w : Nat} {i : Instr} (h : decodeTableWord nbits w = some i) :
    decode (tableWord nbits w) = .ok i := by
  unfold decodeTableWord at h
  cases hdecode : decode (tableWord nbits w) with
  | ok j =>
    rw [hdecode] at h
    exact congrArg Except.ok (Option.some.inj h)
  | error e =>
    rw [hdecode] at h
    cases h

/-- A pair word is its three fields (30 R70). -/
theorem pairWord_fields (p : BitVec 3) : pairWord (pairS p) (pairA p) (pairB p) = p := by
  revert p; decide

/-- A host's move in a live state answers a next state (40 R100, R102, R103; 60 R220). -/
theorem exec_hostMove_next {i : Instr} {s : State} (hmove : hostMove i = true) (hfault : s.fault = none)
    (hreach : Reachable s) (hlive : s.fsm ≠ .done) : ∃ t, exec i s = .next t := by
  cases i with
  | sample b => exact ⟨_, takeSymbol_normal hfault hreach hlive⟩
  | eos => exact ⟨_, takeSymbol_normal hfault hreach hlive⟩
  | reset => exact ⟨_, rfl⟩
  | text0 => exact ⟨_, takeSymbol_normal hfault hreach hlive⟩
  | text1 => exact ⟨_, takeSymbol_normal hfault hreach hlive⟩
  | textOther c => exact ⟨_, rfl⟩
  | _ => simp [hostMove] at hmove

/-- The pair word's row in a live state whose LS is the one the word names (30 R71). -/
theorem exec_decodeFmPair_next {p : BitVec 3} {s : State} (hfault : s.fault = none) (hregs : RegsOk s)
    (hlive : s.fsm ≠ .done) (hls : s.ls = lineOfLevel (pairS p)) : ∃ t, exec (decodeFmPair p) s = .next t := by
  have hrow := exec_decodeFmPair (lineOfLevel (pairS p)) (pairA p) (pairB p) s
  rw [lineLevel_lineOfLevel, pairWord_fields] at hrow
  exact ⟨_, hrow.trans (takePair_normal hfault hregs hlive hls)⟩

/-- What the placing of a word sets up is what the guards of its instruction ask for (log entry 4). -/
theorem exec_placeWord_next {w : FormatWord} {i : Instr}
    (hformat : w.format = .inSym ∨ w.format = .textIn ∨ w.format = .fmPair ∨ w.format = .frame)
    (hdecode : decode w = .ok i) : ∃ t, exec i { placeWord w State.reset with input := [] } = .next t := by
  have hregs : RegsOk State.reset := resetWith_regsOk Cfg.default []
  have hreach : Reachable State.reset := resetWith_reachable Cfg.default []
  cases w with
  | inSym w => exact exec_hostMove_next (s := State.reset) (hostMove_of_decode (.inl rfl) hdecode) rfl hreach nofun
  | textIn c => exact exec_hostMove_next (s := State.reset) (hostMove_of_decode (.inr rfl) hdecode) rfl hreach nofun
  | fmPair p =>
    cases hdecode
    exact exec_decodeFmPair_next (s := setLs (lineOfLevel (pairS p)) State.reset) rfl hregs nofun rfl
  | frame w q =>
    cases hdecode
    have hrec : RegsOk (setFsm .inRecord State.reset) := by decide
    rw [exec_decodeFrame]
    exact ⟨_, takeFrameWord_normal (s := setFsm .inRecord State.reset) rfl hrec rfl⟩
  | syncMarker w first => simp [FormatWord.format] at hformat
  | event code fields => simp [FormatWord.format] at hformat
  | tapRecord bytes => simp [FormatWord.format] at hformat

/-- Settles O37: the step takes the placed word, and its instruction passes its guards. -/
theorem placedTableWordRunsNext : Obligations.PlacedTableWordRunsNext := by
  unfold Obligations.PlacedTableWordRunsNext
  intro nbits w i h
  have hdecode := decode_tableWord_of_decodeTableWord h
  obtain ⟨t, hexec⟩ := exec_placeWord_next (tableWord_format nbits w) hdecode
  exact ⟨t, (stepRunsTheDecodedInstruction _ _ _ i (placeWord_input _ _) hdecode).trans hexec, hexec⟩

end Sys2Proof.Machine
